-- ==== Sys2Proof/Word.lean ====
section
/-! DEFINITION. The word types of the engine: 32-bit words, bytes, and the word sequences the rules name. -/

namespace Sys2Proof

/-- A `u32` (00_scope R10): every value of the datapath is an unsigned 32-bit word. -/
abbrev Word := BitVec 32

/-- One byte of a message or of the digest text. -/
abbrev Byte := BitVec 8

/-- A block: 16 words, 64 bytes (00_scope R15). -/
abbrev Block := Vector Word 16

/-- The hash state H[0..4] (10_state R21). -/
abbrev Hash := Vector Word 5

/-- The message schedule W[0..79] (10_state R38). -/
abbrev Schedule := Vector Word 80

end Sys2Proof
end

