-- ==== Sys2Proof/Config.lean ====
section
/-! DEFINITION. What the algorithm and the interface fix (00_scope R7, R8), and the free values: the values
the spec leaves unspecified, constants without a body, so that nothing can evaluate them. -/

namespace Sys2Proof.Config

/-- WINDOW_BYTES (00_scope R8, 20_memory R60). -/
def windowBytes : Nat := 256

/-- BLOCK_BYTES (00_scope R7). -/
def blockBytes : Nat := 64

/-- The size limit 2^61 in bytes: `8 * L` overflows 64 bits exactly from here (43_padder R155); LEN saturates here (44_commands R178). -/
def lenLimit : Nat := 2 ^ 61

/-- Free value (log 4): what the n-th unspecified read of the instance at BASE returns, as `freeReadWord base n`
(20_memory R68). That it depends on nothing else is the model's choice: two instances have two bases (60_exceptions R236),
so nothing relates their reads, but two states with one base and one count read the same. -/
opaque freeReadWord : Nat → Nat → Word

/-- Free value (log 5): W outside a compression (10_state R38), by BASE and the count as above. -/
opaque freeSchedule : Nat → Nat → Schedule

/-- Free value (log 5): a, b, c, d, e outside a compression (10_state R39), by BASE and the count as above. -/
opaque freeWorking : Nat → Nat → Vector Word 5

/-- Free value (log 5): the step counter t outside a job (10_state R40), by BASE and the count as above. -/
opaque freeStep : Nat → Nat → BitVec 7

/-- Free value (log 5): the block index j outside a job (10_state R40), by BASE and the count as above. -/
opaque freeBlockIndex : Nat → Nat → BitVec 1

end Sys2Proof.Config
end

