-- ==== Sys2Proof/Machine/Port.lean ====
section
/-! DEFINITION. The host port: what an access on the bus is, what it returns, what the host has lined up, and
whose turn it is (20_memory R60 to R70, 30_encoding R90). -/

namespace Sys2Proof.Machine

/-- DIR of a bus access (30_encoding R80). -/
inductive Dir where
  | read
  | write
  deriving DecidableEq, Repr

/-- The widths a bus access can have; only 32 bits is legal (20_memory R63). -/
inductive Width where
  | w8
  | w16
  | w32
  | w64
  deriving DecidableEq, Repr

/-- A host access as it stands on the bus: `addr` is the host address (20_memory R61), `data` the write data
(0 and without meaning for a read). -/
structure Access where
  dir : Dir
  width : Width
  addr : Nat
  data : Word
  deriving DecidableEq, Repr

/-- How an access completes (00_scope R13, 20_memory R64). -/
inductive Response where
  /-- a read that completes, with its value -/
  | readOk (data : Word)
  /-- a write that completes -/
  | writeOk
  /-- a read answered by a bus error, with the data value beside it -/
  | readError (data : Word)
  /-- a write answered by a bus error -/
  | writeError
  deriving DecidableEq, Repr

/-- One line of a host program: an access, or WAIT, which polls STATUS until BUSY = 0 (30_encoding R90). -/
inductive HostOp where
  | access (acc : Access)
  | wait
  deriving DecidableEq, Repr

/-- Who moves next (log 1): an agent of 00_scope R9, or the reset input (70_reset_and_hazards R250). -/
inductive Turn where
  | host
  | engine
  | assertReset
  | releaseReset
  deriving DecidableEq, Repr

end Sys2Proof.Machine
end

