-- ==== Sys2Proof/Syntax.lean ====
section
/-! DEFINITION. The instructions: one constructor for each row of spec/opcode_table.json. -/

namespace Sys2Proof

/-- The three commands (CMD rows) and the bus accesses (BUS rows) of 30_encoding R80, R85, R88.
A write carries its data word `v`; `i` is the DATA index `OFFSET[5:2]`. -/
inductive Instr where
  /-- INIT, word 0x00000001 (44_commands R172) -/
  | init
  /-- COMPRESS, word 0x00004002 (44_commands R173 to R179) -/
  | compress
  /-- FINALIZE n, word 0x00000003 + (n << 8); `n` is the field NBYTES (44_commands R180 to R186) -/
  | finalize (n : BitVec 7)
  /-- WR CTRL, w (44_commands R170, R171) -/
  | wrCtrl (v : Word)
  | rdCtrl
  | rdStatus
  | rdLenLo
  | rdLenHi
  | rdDigest0
  | rdDigest1
  | rdDigest2
  | rdDigest3
  | rdDigest4
  | rdData (i : Fin 16)
  | wrData (i : Fin 16) (v : Word)
  | rdHex0
  | rdHex1
  | rdHex2
  | rdHex3
  | rdHex4
  | rdHex5
  | rdHex6
  | rdHex7
  | rdHex8
  | rdHex9
  | wrStatus (v : Word)
  | wrLenLo (v : Word)
  | wrLenHi (v : Word)
  | wrDigest0 (v : Word)
  | wrDigest1 (v : Word)
  | wrDigest2 (v : Word)
  | wrDigest3 (v : Word)
  | wrDigest4 (v : Word)
  | wrHex0 (v : Word)
  | wrHex1 (v : Word)
  | wrHex2 (v : Word)
  | wrHex3 (v : Word)
  | wrHex4 (v : Word)
  | wrHex5 (v : Word)
  | wrHex6 (v : Word)
  | wrHex7 (v : Word)
  | wrHex8 (v : Word)
  | wrHex9 (v : Word)
  deriving DecidableEq, Repr

end Sys2Proof
end

