-- ==== Sys2Proof/WellFormed.lean ====
section
/-! DEFINITION. Which terms of Instr stand for an access the encoding can express under their own name. -/

namespace Sys2Proof

/-- The defined command words, by the match and mask of 30_encoding R85. -/
def isCommandWord (w : Word) : Bool :=
  w == 0x00000001 || w == 0x00004002 || w &&& 0xFFFFC0FF == 0x00000003

/-- FINALIZE has a tail of 0 to 63 bytes (30_encoding R85). A CTRL write of a defined command word is
that command (R89), so `wrCtrl` stands for the other words. Every other term is well formed. -/
def Instr.wf : Instr → Bool
  | .finalize n => n.toNat ≤ 63
  | .wrCtrl v => !isCommandWord v
  | .init | .compress | .rdCtrl | .rdStatus | .rdLenLo | .rdLenHi
  | .rdDigest0 | .rdDigest1 | .rdDigest2 | .rdDigest3 | .rdDigest4
  | .rdData _ | .wrData _ _
  | .rdHex0 | .rdHex1 | .rdHex2 | .rdHex3 | .rdHex4 | .rdHex5 | .rdHex6 | .rdHex7 | .rdHex8 | .rdHex9
  | .wrStatus _ | .wrLenLo _ | .wrLenHi _
  | .wrDigest0 _ | .wrDigest1 _ | .wrDigest2 _ | .wrDigest3 _ | .wrDigest4 _
  | .wrHex0 _ | .wrHex1 _ | .wrHex2 _ | .wrHex3 _ | .wrHex4 _ | .wrHex5 _ | .wrHex6 _ | .wrHex7 _ | .wrHex8 _
  | .wrHex9 _ => true

end Sys2Proof
end

