-- ==== Sys2Proof/Decode.lean ====
section
/-! DEFINITION. The decoder, total on every bus access, and the encoder (30_encoding, 20_memory R60 to R66). -/

namespace Sys2Proof
open Machine

/-- What a CMD word decodes to (30_encoding R86). -/
inductive CmdDecode where
  | init
  | compress
  | finalize (n : BitVec 7)
  | illegal
  | malformed
  deriving DecidableEq, Repr

/-- Field OP, bits 3:0 (30_encoding R80). -/
def cmdOp (w : Word) : BitVec 4 := w.extractLsb' 0 4

/-- Field RSV0, bits 7:4 (30_encoding R80). -/
def cmdRsv0 (w : Word) : BitVec 4 := w.extractLsb' 4 4

/-- Field NBYTES, bits 14:8 (30_encoding R82). -/
def cmdNbytes (w : Word) : BitVec 7 := w.extractLsb' 8 7

/-- Field RSV1, bits 31:15 (30_encoding R80). -/
def cmdRsv1 (w : Word) : BitVec 17 := w.extractLsb' 15 17

/-- The command decoder, in the order of 30_encoding R86. -/
def decodeCmd (w : Word) : CmdDecode :=
  if cmdRsv1 w ≠ 0 ∨ cmdRsv0 w ≠ 0 then .illegal
  else if cmdOp w = 1 then
    if cmdNbytes w ≠ 0 then .illegal else .init
  else if cmdOp w = 2 then
    if cmdNbytes w ≠ 64 then .malformed else .compress
  else if cmdOp w = 3 then
    if (cmdNbytes w).toNat > 63 then .malformed else .finalize (cmdNbytes w)
  else .illegal

/-- The instruction a write of `w` to CTRL is: the command, for a defined command word (30_encoding R89), else WR CTRL. -/
def ctrlWriteInstr (w : Word) : Instr :=
  match decodeCmd w with
  | .init => .init
  | .compress => .compress
  | .finalize n => .finalize n
  | .illegal => .wrCtrl w
  | .malformed => .wrCtrl w

/-- The DATA index of a descriptor, `OFFSET[5:2]` (30_encoding R88). -/
def dataIndex (d : BitVec 9) : Fin 16 := (d.extractLsb' 2 4).toFin

/-- One BUS row of the opcode table: a descriptor `d` is of the row when `d &&& mask = pat`. -/
structure BusRow where
  pat : BitVec 9
  mask : BitVec 9
  instr : BitVec 9 → Word → Instr

/-- The descriptor is of this row. -/
def BusRow.hits (r : BusRow) (d : BitVec 9) : Bool := d &&& r.mask == r.pat

def controlRows : List BusRow :=
  [⟨0x100, 0x1FF, fun _ v => ctrlWriteInstr v⟩,
   ⟨0x000, 0x1FF, fun _ _ => .rdCtrl⟩,
   ⟨0x004, 0x1FF, fun _ _ => .rdStatus⟩,
   ⟨0x008, 0x1FF, fun _ _ => .rdLenLo⟩,
   ⟨0x00C, 0x1FF, fun _ _ => .rdLenHi⟩]

def digestRows : List BusRow :=
  [⟨0x010, 0x1FF, fun _ _ => .rdDigest0⟩,
   ⟨0x014, 0x1FF, fun _ _ => .rdDigest1⟩,
   ⟨0x018, 0x1FF, fun _ _ => .rdDigest2⟩,
   ⟨0x01C, 0x1FF, fun _ _ => .rdDigest3⟩,
   ⟨0x020, 0x1FF, fun _ _ => .rdDigest4⟩]

def dataRows : List BusRow :=
  [⟨0x040, 0x1C3, fun d _ => .rdData (dataIndex d)⟩,
   ⟨0x140, 0x1C3, fun d v => .wrData (dataIndex d) v⟩]

def hexRows : List BusRow :=
  [⟨0x080, 0x1FF, fun _ _ => .rdHex0⟩,
   ⟨0x084, 0x1FF, fun _ _ => .rdHex1⟩,
   ⟨0x088, 0x1FF, fun _ _ => .rdHex2⟩,
   ⟨0x08C, 0x1FF, fun _ _ => .rdHex3⟩,
   ⟨0x090, 0x1FF, fun _ _ => .rdHex4⟩,
   ⟨0x094, 0x1FF, fun _ _ => .rdHex5⟩,
   ⟨0x098, 0x1FF, fun _ _ => .rdHex6⟩,
   ⟨0x09C, 0x1FF, fun _ _ => .rdHex7⟩,
   ⟨0x0A0, 0x1FF, fun _ _ => .rdHex8⟩,
   ⟨0x0A4, 0x1FF, fun _ _ => .rdHex9⟩]

def readOnlyRows : List BusRow :=
  [⟨0x104, 0x1FF, fun _ v => .wrStatus v⟩,
   ⟨0x108, 0x1FF, fun _ v => .wrLenLo v⟩,
   ⟨0x10C, 0x1FF, fun _ v => .wrLenHi v⟩,
   ⟨0x110, 0x1FF, fun _ v => .wrDigest0 v⟩,
   ⟨0x114, 0x1FF, fun _ v => .wrDigest1 v⟩,
   ⟨0x118, 0x1FF, fun _ v => .wrDigest2 v⟩,
   ⟨0x11C, 0x1FF, fun _ v => .wrDigest3 v⟩,
   ⟨0x120, 0x1FF, fun _ v => .wrDigest4 v⟩]

def readOnlyHexRows : List BusRow :=
  [⟨0x180, 0x1FF, fun _ v => .wrHex0 v⟩,
   ⟨0x184, 0x1FF, fun _ v => .wrHex1 v⟩,
   ⟨0x188, 0x1FF, fun _ v => .wrHex2 v⟩,
   ⟨0x18C, 0x1FF, fun _ v => .wrHex3 v⟩,
   ⟨0x190, 0x1FF, fun _ v => .wrHex4 v⟩,
   ⟨0x194, 0x1FF, fun _ v => .wrHex5 v⟩,
   ⟨0x198, 0x1FF, fun _ v => .wrHex6 v⟩,
   ⟨0x19C, 0x1FF, fun _ v => .wrHex7 v⟩,
   ⟨0x1A0, 0x1FF, fun _ v => .wrHex8 v⟩,
   ⟨0x1A4, 0x1FF, fun _ v => .wrHex9 v⟩]

/-- The BUS rows of the opcode table, in its order (30_encoding R88). -/
def busRows : List BusRow :=
  controlRows ++ digestRows ++ dataRows ++ hexRows ++ readOnlyRows ++ readOnlyHexRows

/-- The instruction of a 9-bit descriptor with its data word; none for an unmapped offset (20_memory R65). -/
def decodeDescriptor (d : BitVec 9) (v : Word) : Option Instr :=
  (busRows.find? (·.hits d)).map (fun r => r.instr d v)

/-- The descriptor `{DIR, OFFSET}` of an access at window offset `off` (30_encoding R80). -/
def descriptorOf (dir : Dir) (off : BitVec 8) : BitVec 9 :=
  (match dir with | .read => 0#1 | .write => 1#1) ++ off

/-- Why an access is no instruction. -/
inductive DecodeError where
  /-- the address is outside the window: the access does not reach the engine (20_memory R61) -/
  | outsideWindow
  /-- the width is not 32 bits (20_memory R63) -/
  | badWidth
  /-- the offset is no multiple of 4 (20_memory R63) -/
  | misaligned
  /-- no register at the offset (20_memory R65) -/
  | unmapped
  deriving DecidableEq, Repr

/-- The decoder of host accesses, total (20_memory R61, R63 to R66; 30_encoding R86, R88). -/
def decode (base : Nat) (acc : Access) : Except DecodeError Instr :=
  if acc.addr < base ∨ base + Config.windowBytes ≤ acc.addr then .error .outsideWindow
  else if acc.width ≠ .w32 then .error .badWidth
  else if (acc.addr - base) % 4 ≠ 0 then .error .misaligned
  else
    match decodeDescriptor (descriptorOf acc.dir (BitVec.ofNat 8 (acc.addr - base))) acc.data with
    | some i => .ok i
    | none => .error .unmapped

/-! ### The encoder, from the same tables of the spec -/

/-- An aligned 32-bit read at window offset `off`. -/
def readAt (base off : Nat) : Access := ⟨.read, .w32, base + off, 0⟩

/-- An aligned 32-bit write at window offset `off`. -/
def writeAt (base off : Nat) (v : Word) : Access := ⟨.write, .w32, base + off, v⟩

/-- The word of `FINALIZE n`: `0x00000003 + (n << 8)` (30_encoding R85). -/
def finalizeWord (n : BitVec 7) : Word := 0x00000003 + (n.setWidth 32 <<< 8)

/-- The bus access of an instruction (20_memory R60, 30_encoding R85, R88). -/
def encode (base : Nat) : Instr → Access
  | .init => writeAt base 0x00 0x00000001
  | .compress => writeAt base 0x00 0x00004002
  | .finalize n => writeAt base 0x00 (finalizeWord n)
  | .wrCtrl v => writeAt base 0x00 v
  | .rdCtrl => readAt base 0x00
  | .rdStatus => readAt base 0x04
  | .rdLenLo => readAt base 0x08
  | .rdLenHi => readAt base 0x0C
  | .rdDigest0 => readAt base 0x10
  | .rdDigest1 => readAt base 0x14
  | .rdDigest2 => readAt base 0x18
  | .rdDigest3 => readAt base 0x1C
  | .rdDigest4 => readAt base 0x20
  | .rdData i => readAt base (0x40 + 4 * i.val)
  | .wrData i v => writeAt base (0x40 + 4 * i.val) v
  | .rdHex0 => readAt base 0x80
  | .rdHex1 => readAt base 0x84
  | .rdHex2 => readAt base 0x88
  | .rdHex3 => readAt base 0x8C
  | .rdHex4 => readAt base 0x90
  | .rdHex5 => readAt base 0x94
  | .rdHex6 => readAt base 0x98
  | .rdHex7 => readAt base 0x9C
  | .rdHex8 => readAt base 0xA0
  | .rdHex9 => readAt base 0xA4
  | .wrStatus v => writeAt base 0x04 v
  | .wrLenLo v => writeAt base 0x08 v
  | .wrLenHi v => writeAt base 0x0C v
  | .wrDigest0 v => writeAt base 0x10 v
  | .wrDigest1 v => writeAt base 0x14 v
  | .wrDigest2 v => writeAt base 0x18 v
  | .wrDigest3 v => writeAt base 0x1C v
  | .wrDigest4 v => writeAt base 0x20 v
  | .wrHex0 v => writeAt base 0x80 v
  | .wrHex1 v => writeAt base 0x84 v
  | .wrHex2 v => writeAt base 0x88 v
  | .wrHex3 v => writeAt base 0x8C v
  | .wrHex4 v => writeAt base 0x90 v
  | .wrHex5 v => writeAt base 0x94 v
  | .wrHex6 v => writeAt base 0x98 v
  | .wrHex7 v => writeAt base 0x9C v
  | .wrHex8 v => writeAt base 0xA0 v
  | .wrHex9 v => writeAt base 0xA4 v

/-! ### Instructions as the opcode table numbers their bits -/

/-- The access a table word stands for (log 8). A CMD word is 32 bits, written to CTRL. A BUS descriptor is the low
9 bits of a 16-bit field, and the data word of a write is in the bits above that field. -/
def tableAccess (base nbits w : Nat) : Option Access :=
  if nbits = 32 then
    if w < 2 ^ 32 then some (writeAt base 0x00 (BitVec.ofNat 32 w)) else none
  else if nbits ≤ 16 ∨ nbits = 48 then
    if w % 2 ^ 16 < 2 ^ 9 ∧ w < 2 ^ 48 then
      let off := w % 2 ^ 8
      let v := BitVec.ofNat 32 (w / 2 ^ 16)
      some (if w.testBit 8 then writeAt base off v else ⟨.read, .w32, base + off, v⟩)
    else none
  else none

/-- The instruction the decoder reads from a table word of `nbits` bits. -/
def decodeTableWord (nbits w : Nat) : Option Instr :=
  match tableAccess 0 nbits w with
  | some acc =>
    match decode 0 acc with
    | .ok i => some i
    | .error _ => none
  | none => none

end Sys2Proof
end

