-- ==== Sys2Proof/Machine/Constants.lean ====
section
/-! DEFINITION. The hardwired constants (40_word_functions R109): the initial hash value and the round constants. -/

namespace Sys2Proof.Machine

/-- The initial hash value IV (10_state R22). -/
def iv : Hash := #v[0x67452301, 0xEFCDAB89, 0x98BADCFE, 0x10325476, 0xC3D2E1F0]

/-- The four round constants, one for each class of 20 steps (40_word_functions R106, R108). -/
def classConst : Fin 4 → Word
  | 0 => 0x5A827999
  | 1 => 0x6ED9EBA1
  | 2 => 0x8F1BBCDC
  | 3 => 0xCA62C1D6

/-- The class of step t: `t div 20` (40_word_functions R106, R108). -/
def stepClass (t : Fin 80) : Fin 4 := ⟨t.val / 20, by omega⟩

end Sys2Proof.Machine
end

