-- ==== Sys2Proof/Machine/State.lean ====
section
/-! DEFINITION. The state of one engine instance (10_state R20 to R42) with its host port, the reasons a step
can stop, and the state after reset. -/

namespace Sys2Proof.Machine

/-- STATE, the life-cycle register (10_state R26). -/
inductive LifeState where
  | created
  | absorbing
  | finalized
  | failed
  deriving DecidableEq, Repr

/-- The result codes the engine writes to STATUS.RESULT (10_state R32); 5, 6 and 7 are never written (log 13). -/
inductive ResultCode where
  | ok
  | illegal
  | malformed
  | badState
  | oversize
  deriving DecidableEq, Repr

/-- The record of JOB (10_state R37). -/
structure Job where
  blocks : List Block
  newLen : BitVec 64
  newState : LifeState
  deriving DecidableEq, Repr

/-- The two conditions a model may meet only if it has left the hardware's behaviour (60_exceptions R229).
Both are safe: the machine stops, and no value is produced. -/
inductive Fault where
  /-- raised by K, f and the schedule when given a step outside their range (40_word_functions R110); safe -/
  | stepOutOfRange (t : Nat)
  /-- raised by rotl32 for an amount other than 1, 5, 30 (40_word_functions R101); safe -/
  | unreachableRotate (n : Nat)
  deriving DecidableEq, Repr

/-- Why an instruction has no meaning. -/
inductive Refusal where
  /-- raised only by an arm of exec that rejects its instruction by name (none does now); safe -/
  | notModelled (mnemonic : String)
  deriving DecidableEq, Repr

/-- One engine instance: its host-visible registers and its internal state (10_state R20), the reset line, and
the model's own fields (the host's accesses, whose turn it is, the last response, the draws, and BASE). -/
structure State where
  /-- H[0..4] (R21) -/
  h : Hash
  /-- LEN (R24) -/
  len : BitVec 64
  /-- DATA[0..15] (R25) -/
  data : Block
  /-- STATE (R26) -/
  lifeState : LifeState
  /-- STATUS.BUSY (R28) -/
  busy : Bool
  /-- STATUS.OVR (R30) -/
  ovr : Bool
  /-- STATUS.RESULT (R32) -/
  result : ResultCode
  /-- JOB (R37) -/
  job : Option Job
  /-- W[0..79] (R38) -/
  w : Schedule
  /-- the working variables (R39) -/
  a : Word
  b : Word
  c : Word
  d : Word
  e : Word
  /-- the step counter, 0 to 80 (R40) -/
  t : BitVec 7
  /-- the index of the block being compressed (R40) -/
  j : BitVec 1
  /-- the level of the reset input (70_reset_and_hazards R250) -/
  resetLine : Bool
  /-- BASE (20_memory R61), a parameter of the platform; nothing writes it (log 3) -/
  base : Nat
  /-- the host's operations not yet taken, oldest first (20_memory R70; log 1) -/
  pending : List HostOp
  /-- who moves next, first in the list first (log 1) -/
  turns : List Turn
  /-- how the last access taken completed (log 2) -/
  resp : Option Response
  /-- how many free values have been taken (log 4) -/
  draws : Nat
  deriving DecidableEq, Repr

/-- The machine right after reset (10_state R41). The internal W, a to e, t and j, which reset leaves unspecified,
are 0 here (log 5), and the model's own fields are empty or 0 (log 1 to 4). -/
def State.reset : State where
  h := iv
  len := 0
  data := Vector.replicate 16 0
  lifeState := .created
  busy := false
  ovr := false
  result := .ok
  job := none
  w := Vector.replicate 80 0
  a := 0
  b := 0
  c := 0
  d := 0
  e := 0
  t := 0
  j := 0
  resetLine := false
  base := 0
  pending := []
  turns := []
  resp := none
  draws := 0

end Sys2Proof.Machine
end

