-- ==== Sys2Proof/Machine/Flags.lean ====
section
/-! DEFINITION. The STATUS register: its fields' codes and the word a read of it assembles (10_state R26 to R32). The
engine has no other flags (40_word_functions R105). -/

namespace Sys2Proof.Machine

/-- The 2-bit value of STATE (10_state R26). -/
def LifeState.code : LifeState → BitVec 2
  | .created => 0
  | .absorbing => 1
  | .finalized => 2
  | .failed => 3

/-- The 3-bit value of RESULT (10_state R32). -/
def ResultCode.code : ResultCode → BitVec 3
  | .ok => 0
  | .illegal => 1
  | .malformed => 2
  | .badState => 3
  | .oversize => 4

/-- STATUS.DVALID: 1 exactly when STATE = FINALIZED (10_state R29). -/
def State.dvalid (s : State) : Bool := s.lifeState == .finalized

/-- STATUS as a word: `zext_32(RESULT ++ 0b00 ++ STATE ++ 0b0 ++ OVR ++ DVALID ++ BUSY)` (44_commands R190). -/
def State.statusWord (s : State) : Word :=
  (s.result.code ++ 0#2 ++ s.lifeState.code ++ 0#1 ++ BitVec.ofBool s.ovr ++ BitVec.ofBool s.dvalid
    ++ BitVec.ofBool s.busy).setWidth 32

/-- STATE allows COMPRESS and FINALIZE (44_commands R181). -/
def LifeState.takesInput : LifeState → Bool
  | .created => true
  | .absorbing => true
  | .finalized => false
  | .failed => false

end Sys2Proof.Machine
end

