-- ==== Sys2Proof/Machine/Ops.lean ====
section
/-! DEFINITION. The named operations over State that the meanings share. The engine has no traps (60_exceptions R224):
what stands in an exception's place, `raise Reject(code)` and `raise BusError` (00_scope R13), is here once. -/

namespace Sys2Proof.Machine

/-- The access completes on the bus with `r`. -/
def State.respond (r : Response) (s : State) : State := { s with resp := some r }

/-! ### Errors -/

/-- `raise Reject(code)`: RESULT, and nothing else (44_commands R170). -/
def State.raiseReject (code : ResultCode) (s : State) : State := { s with result := code }

/-- The OVERSIZE rejection, which also makes STATE = FAILED (44_commands R184). -/
def State.raiseOversize (s : State) : State := { s with result := .oversize, lifeState := .failed }

/-- A CTRL write while busy: dropped, and OVR is set (44_commands R171). -/
def State.dropCommand (s : State) : State := { s with ovr := true }

/-- `raise BusError`: the error response, read data 0, no effect on the engine (20_memory R64). -/
def State.raiseBusError (dir : Dir) (s : State) : State :=
  s.respond (match dir with | .read => .readError 0 | .write => .writeError)

/-! ### Registers -/

/-- `DATA[i] <- v` (44_commands R193). -/
def State.writeData (i : Fin 16) (v : Word) (s : State) : State := { s with data := s.data.set i v }

/-- The effect of INIT (44_commands R172). -/
def State.freshHash (s : State) : State :=
  { s with h := iv, len := 0, lifeState := .created, ovr := false, result := .ok }

/-- Acceptance of a job (44_commands R176, R182). -/
def State.startJob (jb : Job) (s : State) : State := { s with job := some jb, busy := true, result := .ok }

/-- The end of the completion step: LEN, STATE, JOB and BUSY (44_commands R187). -/
def State.finishJob (jb : Job) (s : State) : State :=
  { s with len := jb.newLen, lifeState := jb.newState, job := none, busy := false }

/-! ### Free values -/

/-- A read with an unspecified value: the instance's next free word, and the draw is counted (20_memory R68; log 4:
the word depends on BASE and the count alone). -/
def State.respondFree (s : State) : State :=
  { s with draws := s.draws + 1, resp := some (.readOk (Config.freeReadWord s.base s.draws)) }

/-- W, a to e, t and j become unspecified (10_state R38 to R40; log 5). -/
def State.forgetPipeline (s : State) : State :=
  { s with
    w := Config.freeSchedule s.base s.draws
    a := (Config.freeWorking s.base s.draws)[0]
    b := (Config.freeWorking s.base s.draws)[1]
    c := (Config.freeWorking s.base s.draws)[2]
    d := (Config.freeWorking s.base s.draws)[3]
    e := (Config.freeWorking s.base s.draws)[4]
    t := Config.freeStep s.base s.draws
    j := Config.freeBlockIndex s.base s.draws
    draws := s.draws + 1 }

/-! ### Reset -/

/-- The reset values of 10_state R41; the internal state is left unspecified (70_reset_and_hazards R250). -/
def State.applyReset (s : State) : State :=
  { s.forgetPipeline with
    h := iv
    len := 0
    data := Vector.replicate 16 0
    lifeState := .created
    busy := false
    ovr := false
    result := .ok
    job := none }

end Sys2Proof.Machine
end

