-- ==== Sys2Proof/Machine/Operands.lean ====
section
/-! DEFINITION. The operand forms: bytes and words (00_scope R11, 20_memory R69), the block and the tail a command
takes from DATA (10_state R25, 43_padder R150). -/

namespace Sys2Proof.Machine

/-- `BE32(b0, b1, b2, b3)`, the big-endian word of four bytes (00_scope R11). -/
def be32 (b0 b1 b2 b3 : Byte) : Word :=
  (b0.setWidth 32 <<< 24) ||| (b1.setWidth 32 <<< 16) ||| (b2.setWidth 32 <<< 8) ||| b3.setWidth 32

/-- `BE64(n)`, the eight bytes of `n`, the most significant first (00_scope R11). -/
def be64 (n : BitVec 64) : List Byte :=
  [n.extractLsb' 56 8, n.extractLsb' 48 8, n.extractLsb' 40 8, n.extractLsb' 32 8,
   n.extractLsb' 24 8, n.extractLsb' 16 8, n.extractLsb' 8 8, n.extractLsb' 0 8]

/-- Byte `4 * i + k` of the block in `data`: `data[i][31 - 8k : 24 - 8k]` (10_state R25). -/
def dataByte (data : Block) (p : Fin 64) : Byte :=
  data[p.val / 4].extractLsb' (24 - 8 * (p.val % 4)) 8

/-- The tail `T[0..n-1]`: the first `n` bytes of DATA (43_padder R150). -/
def tailBytes (data : Block) (n : Nat) : List Byte :=
  ((List.finRange 64).take n).map (dataByte data)

/-- The block COMPRESS latches: DATA[0..15] as it stands (44_commands R175). -/
def State.latchBlock (s : State) : Block := s.data

/-- The message length FINALIZE n checks, `LEN + n`, computed exactly (44_commands R182; log 14). -/
def State.totalLength (s : State) (n : BitVec 7) : Nat := s.len.toNat + n.toNat

/-- The length COMPRESS leaves, `min(LEN + 64, 2^61)`, computed exactly (44_commands R178; log 14). -/
def State.lengthAfterBlock (s : State) : BitVec 64 :=
  BitVec.ofNat 64 (min (s.len.toNat + Config.blockBytes) Config.lenLimit)

end Sys2Proof.Machine
end

