-- ==== Sys2Proof/Machine/Padder.lean ====
section
/-! DEFINITION. The message padder (43_padder R150 to R157). -/

namespace Sys2Proof.Machine

/-- The count of zero bytes after the marker: `55 - n` for n <= 55, `119 - n` for 56 <= n <= 63 (R151). -/
def padZeros (n : Nat) : Nat := if n ≤ 55 then 55 - n else 119 - n

/-- The padded tail `P = T || [0x80] || 0x00 * z || BE64(8 * L)` (R153). -/
def paddedTail (tail : List Byte) (len : Nat) : List Byte :=
  tail ++ [0x80] ++ List.replicate (padZeros tail.length) 0 ++ be64 (BitVec.ofNat 64 (8 * len))

/-- `words(q)` of 64 bytes: 16 big-endian words (R153, R157). -/
def blockOfBytes (q : List Byte) : Block :=
  Vector.ofFn fun i =>
    be32 (q.getD (4 * i.val) 0) (q.getD (4 * i.val + 1) 0) (q.getD (4 * i.val + 2) 0) (q.getD (4 * i.val + 3) 0)

/-- The first `k` blocks of a byte sequence of `64 * k` bytes (R153). -/
def blocksOfBytes (k : Nat) (p : List Byte) : List Block :=
  (List.range k).map fun j => blockOfBytes ((p.drop (64 * j)).take 64)

/-- `Pad(T, n, L)`: one or two blocks, or none for Oversize (R157). -/
def pad (tail : List Byte) (len : Nat) : Option (List Block) :=
  if len ≥ Config.lenLimit then none
  else
    let p := paddedTail tail len
    some (blocksOfBytes (p.length / 64) p)

end Sys2Proof.Machine
end

