-- ==== Sys2Proof/Machine/Commands.lean ====
section
/-! DEFINITION. The commands: INIT, COMPRESS, FINALIZE, and WR CTRL of any word (44_commands R170 to R186). Every
CTRL write completes on the bus without error (R170); while busy it is dropped (R171). -/

namespace Sys2Proof.Machine
open Host

/-- INIT when not busy: legal in every STATE (R172). -/
def State.performInit (s : State) : State := s.freshHash

/-- COMPRESS when not busy: BADSTATE, or accepted with the block latched (R174 to R176). -/
def State.performCompress (s : State) : State :=
  if s.lifeState.takesInput then
    s.startJob { blocks := [s.latchBlock], newLen := s.lengthAfterBlock, newState := .absorbing }
  else s.raiseReject .badState

/-- FINALIZE n when not busy: MALFORMED, BADSTATE, OVERSIZE, or accepted with the padded tail latched (R182 to R184). -/
def State.performFinalize (n : BitVec 7) (s : State) : State :=
  if n.toNat > 63 then s.raiseReject .malformed
  else if s.lifeState.takesInput then
    match pad (tailBytes s.data n.toNat) (s.totalLength n) with
    | none => s.raiseOversize
    | some blocks =>
      s.startJob { blocks := blocks, newLen := BitVec.ofNat 64 (s.totalLength n), newState := .finalized }
  else s.raiseReject .badState

/-- A CTRL write when not busy, in the order of R170. -/
def State.performCommand (w : Word) (s : State) : State :=
  match decodeCmd w with
  | .illegal => s.raiseReject .illegal
  | .malformed => s.raiseReject .malformed
  | .init => s.performInit
  | .compress => s.performCompress
  | .finalize n => s.performFinalize n

/-- A CTRL write: dropped while busy (R171), else `perform`; the write completes on the bus (R170). -/
def ctrlWrite (perform : State → State) (s : State) : Outcome State Fault Refusal :=
  .next ((if s.busy then s.dropCommand else perform s).respond .writeOk)

def execInit (s : State) : Outcome State Fault Refusal := ctrlWrite State.performInit s

def execCompress (s : State) : Outcome State Fault Refusal := ctrlWrite State.performCompress s

def execFinalize (n : BitVec 7) (s : State) : Outcome State Fault Refusal := ctrlWrite (State.performFinalize n) s

def execWrCtrl (v : Word) (s : State) : Outcome State Fault Refusal := ctrlWrite (State.performCommand v) s

end Sys2Proof.Machine
end

