-- ==== Sys2Proof/Machine/Serializer.lean ====
section
/-! DEFINITION. The digest serializer: DIGEST and HEX as views of H (45_digest_serializer R210 to R217). -/

namespace Sys2Proof.Machine

/-- A hexadecimal digit in ASCII, lowercase (R210). -/
def hexChar (v : BitVec 4) : Byte :=
  if v.toNat ≤ 9 then BitVec.ofNat 8 (0x30 + v.toNat) else BitVec.ofNat 8 (0x61 + (v.toNat - 10))

/-- Character j of the digest: `hexchar(H[j div 8][31 - 4*(j mod 8) : 28 - 4*(j mod 8)])` (R211). -/
def digestChar (h : Hash) (j : Fin 40) : Byte :=
  hexChar (h[j.val / 8].extractLsb' (28 - 4 * (j.val % 8)) 4)

/-- `HEX[k]`: characters 4k to 4k+3, the first in the high byte (R212). -/
def hexWord (h : Hash) (k : Fin 10) : Word :=
  be32 (digestChar h ⟨4 * k.val, by omega⟩) (digestChar h ⟨4 * k.val + 1, by omega⟩)
    (digestChar h ⟨4 * k.val + 2, by omega⟩) (digestChar h ⟨4 * k.val + 3, by omega⟩)

/-- What DIGEST[i] shows when not busy: 0 in FAILED, else H[i] (R213). -/
def State.digestView (i : Fin 5) (s : State) : Word :=
  if s.lifeState = .failed then 0 else s.h[i]

/-- What HEX[k] shows when not busy: 0 in FAILED, else the characters of H (R214). -/
def State.hexView (k : Fin 10) (s : State) : Word :=
  if s.lifeState = .failed then 0 else hexWord s.h k

end Sys2Proof.Machine
end

