-- ==== Sys2Proof/Machine/Reads.lean ====
section
/-! DEFINITION. The register reads (44_commands R190 to R192, 45_digest_serializer R213, R214, 20_memory R66, R68). No
read has a side effect on the engine. -/

namespace Sys2Proof.Machine
open Host

/-- A read that is exact at all times. -/
def readExact (v : Word) (s : State) : Outcome State Fault Refusal := .next (s.respond (.readOk v))

/-- A read that is exact when not busy, and unspecified while busy (20_memory R68). -/
def readWhenIdle (v : Word) (s : State) : Outcome State Fault Refusal :=
  .next (if s.busy then s.respondFree else s.respond (.readOk v))

/-- CTRL reads 0 (20_memory R66). -/
def execRdCtrl (s : State) : Outcome State Fault Refusal := readExact 0 s

/-- STATUS is exact at all times (44_commands R190). -/
def execRdStatus (s : State) : Outcome State Fault Refusal := readExact s.statusWord s

/-- `LEN[31:0]` (44_commands R191). -/
def execRdLenLo (s : State) : Outcome State Fault Refusal := readWhenIdle (s.len.extractLsb' 0 32) s

/-- `LEN[63:32]` (44_commands R191). -/
def execRdLenHi (s : State) : Outcome State Fault Refusal := readWhenIdle (s.len.extractLsb' 32 32) s

/-- DATA is exact at all times (44_commands R192). -/
def execRdData (i : Fin 16) (s : State) : Outcome State Fault Refusal := readExact s.data[i] s

def execRdDigest0 (s : State) : Outcome State Fault Refusal := readWhenIdle (s.digestView 0) s
def execRdDigest1 (s : State) : Outcome State Fault Refusal := readWhenIdle (s.digestView 1) s
def execRdDigest2 (s : State) : Outcome State Fault Refusal := readWhenIdle (s.digestView 2) s
def execRdDigest3 (s : State) : Outcome State Fault Refusal := readWhenIdle (s.digestView 3) s
def execRdDigest4 (s : State) : Outcome State Fault Refusal := readWhenIdle (s.digestView 4) s

def execRdHex0 (s : State) : Outcome State Fault Refusal := readWhenIdle (s.hexView 0) s
def execRdHex1 (s : State) : Outcome State Fault Refusal := readWhenIdle (s.hexView 1) s
def execRdHex2 (s : State) : Outcome State Fault Refusal := readWhenIdle (s.hexView 2) s
def execRdHex3 (s : State) : Outcome State Fault Refusal := readWhenIdle (s.hexView 3) s
def execRdHex4 (s : State) : Outcome State Fault Refusal := readWhenIdle (s.hexView 4) s
def execRdHex5 (s : State) : Outcome State Fault Refusal := readWhenIdle (s.hexView 5) s
def execRdHex6 (s : State) : Outcome State Fault Refusal := readWhenIdle (s.hexView 6) s
def execRdHex7 (s : State) : Outcome State Fault Refusal := readWhenIdle (s.hexView 7) s
def execRdHex8 (s : State) : Outcome State Fault Refusal := readWhenIdle (s.hexView 8) s
def execRdHex9 (s : State) : Outcome State Fault Refusal := readWhenIdle (s.hexView 9) s

end Sys2Proof.Machine
end

