-- ==== Sys2Proof/Machine/Writes.lean ====
section
/-! DEFINITION. The register writes other than CTRL: DATA (44_commands R193), and the read-only registers, where a
write completes and has no effect (20_memory R66). -/

namespace Sys2Proof.Machine
open Host

/-- `DATA[i] <- v` at all times, busy or not (44_commands R193). -/
def execWrData (i : Fin 16) (v : Word) (s : State) : Outcome State Fault Refusal :=
  .next ((s.writeData i v).respond .writeOk)

/-- A write of any word to a read-only register: completes, no effect (20_memory R66). -/
def writeIgnored (_ : Word) (s : State) : Outcome State Fault Refusal := .next (s.respond .writeOk)

def execWrStatus (v : Word) (s : State) : Outcome State Fault Refusal := writeIgnored v s
def execWrLenLo (v : Word) (s : State) : Outcome State Fault Refusal := writeIgnored v s
def execWrLenHi (v : Word) (s : State) : Outcome State Fault Refusal := writeIgnored v s
def execWrDigest0 (v : Word) (s : State) : Outcome State Fault Refusal := writeIgnored v s
def execWrDigest1 (v : Word) (s : State) : Outcome State Fault Refusal := writeIgnored v s
def execWrDigest2 (v : Word) (s : State) : Outcome State Fault Refusal := writeIgnored v s
def execWrDigest3 (v : Word) (s : State) : Outcome State Fault Refusal := writeIgnored v s
def execWrDigest4 (v : Word) (s : State) : Outcome State Fault Refusal := writeIgnored v s
def execWrHex0 (v : Word) (s : State) : Outcome State Fault Refusal := writeIgnored v s
def execWrHex1 (v : Word) (s : State) : Outcome State Fault Refusal := writeIgnored v s
def execWrHex2 (v : Word) (s : State) : Outcome State Fault Refusal := writeIgnored v s
def execWrHex3 (v : Word) (s : State) : Outcome State Fault Refusal := writeIgnored v s
def execWrHex4 (v : Word) (s : State) : Outcome State Fault Refusal := writeIgnored v s
def execWrHex5 (v : Word) (s : State) : Outcome State Fault Refusal := writeIgnored v s
def execWrHex6 (v : Word) (s : State) : Outcome State Fault Refusal := writeIgnored v s
def execWrHex7 (v : Word) (s : State) : Outcome State Fault Refusal := writeIgnored v s
def execWrHex8 (v : Word) (s : State) : Outcome State Fault Refusal := writeIgnored v s
def execWrHex9 (v : Word) (s : State) : Outcome State Fault Refusal := writeIgnored v s

end Sys2Proof.Machine
end

