-- ==== Sys2Proof/Machine/Dispatch.lean ====
section
/-! DEFINITION. The dispatch: one arm for each instruction, one call of its meaning. -/

namespace Sys2Proof.Machine

def exec (i : Instr) (s : State) : Host.Outcome State Fault Refusal :=
  match i with
  | .init => Sys2Proof.Machine.execInit s
  | .compress => Sys2Proof.Machine.execCompress s
  | .finalize n => Sys2Proof.Machine.execFinalize n s
  | .wrCtrl v => Sys2Proof.Machine.execWrCtrl v s
  | .rdCtrl => Sys2Proof.Machine.execRdCtrl s
  | .rdStatus => Sys2Proof.Machine.execRdStatus s
  | .rdLenLo => Sys2Proof.Machine.execRdLenLo s
  | .rdLenHi => Sys2Proof.Machine.execRdLenHi s
  | .rdDigest0 => Sys2Proof.Machine.execRdDigest0 s
  | .rdDigest1 => Sys2Proof.Machine.execRdDigest1 s
  | .rdDigest2 => Sys2Proof.Machine.execRdDigest2 s
  | .rdDigest3 => Sys2Proof.Machine.execRdDigest3 s
  | .rdDigest4 => Sys2Proof.Machine.execRdDigest4 s
  | .rdData k => Sys2Proof.Machine.execRdData k s
  | .wrData k v => Sys2Proof.Machine.execWrData k v s
  | .rdHex0 => Sys2Proof.Machine.execRdHex0 s
  | .rdHex1 => Sys2Proof.Machine.execRdHex1 s
  | .rdHex2 => Sys2Proof.Machine.execRdHex2 s
  | .rdHex3 => Sys2Proof.Machine.execRdHex3 s
  | .rdHex4 => Sys2Proof.Machine.execRdHex4 s
  | .rdHex5 => Sys2Proof.Machine.execRdHex5 s
  | .rdHex6 => Sys2Proof.Machine.execRdHex6 s
  | .rdHex7 => Sys2Proof.Machine.execRdHex7 s
  | .rdHex8 => Sys2Proof.Machine.execRdHex8 s
  | .rdHex9 => Sys2Proof.Machine.execRdHex9 s
  | .wrStatus v => Sys2Proof.Machine.execWrStatus v s
  | .wrLenLo v => Sys2Proof.Machine.execWrLenLo v s
  | .wrLenHi v => Sys2Proof.Machine.execWrLenHi v s
  | .wrDigest0 v => Sys2Proof.Machine.execWrDigest0 v s
  | .wrDigest1 v => Sys2Proof.Machine.execWrDigest1 v s
  | .wrDigest2 v => Sys2Proof.Machine.execWrDigest2 v s
  | .wrDigest3 v => Sys2Proof.Machine.execWrDigest3 v s
  | .wrDigest4 v => Sys2Proof.Machine.execWrDigest4 v s
  | .wrHex0 v => Sys2Proof.Machine.execWrHex0 v s
  | .wrHex1 v => Sys2Proof.Machine.execWrHex1 v s
  | .wrHex2 v => Sys2Proof.Machine.execWrHex2 v s
  | .wrHex3 v => Sys2Proof.Machine.execWrHex3 v s
  | .wrHex4 v => Sys2Proof.Machine.execWrHex4 v s
  | .wrHex5 v => Sys2Proof.Machine.execWrHex5 v s
  | .wrHex6 v => Sys2Proof.Machine.execWrHex6 v s
  | .wrHex7 v => Sys2Proof.Machine.execWrHex7 v s
  | .wrHex8 v => Sys2Proof.Machine.execWrHex8 v s
  | .wrHex9 v => Sys2Proof.Machine.execWrHex9 v s

end Sys2Proof.Machine
end

