-- ==== Sys2Proof/Machine/WordFunctions.lean ====
section
/-! DEFINITION. The word functions and round constants of the pipeline (40_word_functions R100 to R110). -/

namespace Sys2Proof.Machine

/-- The bits of a left rotation by `n`: `(v << n) | (v >> (32 - n))` (R100). -/
def rotlBits (v : Word) (n : Nat) : Word := (v <<< n) ||| (v >>> (32 - n))

/-- `rotl32(v, n)`. The hardware has rotators for 1, 5 and 30 only; any other amount is a fault (R100, R101). -/
def rotl32 (v : Word) (n : Nat) : Except Fault Word :=
  if n = 1 ∨ n = 5 ∨ n = 30 then .ok (rotlBits v n) else .error (.unreachableRotate n)

/-- `ch(x, y, z)` (R102). -/
def ch (x y z : Word) : Word := (x &&& y) ^^^ (~~~x &&& z)

/-- `parity(x, y, z)` (R103). -/
def parity (x y z : Word) : Word := x ^^^ y ^^^ z

/-- `maj(x, y, z)` (R104). -/
def maj (x y z : Word) : Word := (x &&& y) ^^^ (x &&& z) ^^^ (y &&& z)

/-- The function of each class of steps (R107, R108). -/
def classFun : Fin 4 → Word → Word → Word → Word
  | 0 => ch
  | 1 => parity
  | 2 => maj
  | 3 => parity

/-- `K(t)`; a step outside 0 to 79 is a fault (R106, R110). -/
def roundConst (t : Nat) : Except Fault Word :=
  if h : t < 80 then .ok (classConst (stepClass ⟨t, h⟩)) else .error (.stepOutOfRange t)

/-- `f(x, y, z, t)`; a step outside 0 to 79 is a fault (R107, R110). -/
def roundFun (x y z : Word) (t : Nat) : Except Fault Word :=
  if h : t < 80 then .ok (classFun (stepClass ⟨t, h⟩) x y z) else .error (.stepOutOfRange t)

end Sys2Proof.Machine
end

