-- ==== Sys2Proof/Machine/Expander.lean ====
section
/-! DEFINITION. The message-schedule expander (41_schedule_expander R120 to R123). -/

namespace Sys2Proof.Machine

/-- Words 0 to 15 are the block's (R120); the others are filled before they are read. -/
def loadSchedule (blk : Block) : Schedule :=
  Vector.ofFn fun i => if h : i.val < 16 then blk[i.val] else 0

/-- `W[t] = rotl32(W[t-3] ^ W[t-8] ^ W[t-14] ^ W[t-16], 1)`, for t in 16..79 (R121). -/
def scheduleWord (w : Schedule) (t : Nat) : Except Fault Word :=
  if h : 16 ≤ t ∧ t < 80 then rotl32 (w[t - 3] ^^^ w[t - 8] ^^^ w[t - 14] ^^^ w[t - 16]) 1
  else .error (.stepOutOfRange t)

/-- The schedule once the first `n` of the words 16, 17, … are filled, in index order (R122). -/
def expandUpTo (blk : Block) : Nat → Except Fault Schedule
  | 0 => .ok (loadSchedule blk)
  | n + 1 => do
    let w ← expandUpTo blk n
    let v ← scheduleWord w (16 + n)
    .ok (w.setIfInBounds (16 + n) v)

/-- `Expand(B)` (R123). -/
def expand (blk : Block) : Except Fault Schedule := expandUpTo blk 64

end Sys2Proof.Machine
end

