-- ==== Sys2Proof/Machine/Rounds.lean ====
section
/-! DEFINITION. The round pipeline and the state mixer, as operations on the engine's internal registers
(42_round_pipeline R130 to R136). -/

namespace Sys2Proof.Machine

/-- The schedule word of round t; a step outside 0 to 79 is a fault (40_word_functions R110). -/
def State.roundWord (s : State) : Except Fault Word :=
  if h : s.t.toNat < 80 then .ok s.w[s.t.toNat] else .error (.stepOutOfRange s.t.toNat)

/-- `tmp = rotl32(a, 5) + f(b, c, d, t) + e + K(t) + W[t]`, modulo 2^32 (R131). -/
def State.roundTemp (s : State) : Except Fault Word := do
  let r ← rotl32 s.a 5
  let fv ← roundFun s.b s.c s.d s.t.toNat
  let k ← roundConst s.t.toNat
  let wt ← s.roundWord
  .ok (r + fv + s.e + k + wt)

/-- One round: the five simultaneous writes, and `t <- t + 1` (R132). -/
def roundStep (s : State) : Except Fault State := do
  let tmp ← s.roundTemp
  let c' ← rotl32 s.b 30
  .ok { s with e := s.d, d := s.c, c := c', b := s.a, a := tmp, t := s.t + 1 }

/-- `n` rounds, one after another (R133). -/
def runRounds : Nat → State → Except Fault State
  | 0, s => .ok s
  | n + 1, s => do
    let s' ← roundStep s
    runRounds n s'

/-- The start of a block's compression: W, the working variables from H, `t <- 0`, and the block index (R130, R134). -/
def State.loadBlock (k : Nat) (w : Schedule) (s : State) : State :=
  { s with
    w := w
    a := s.h[0]
    b := s.h[1]
    c := s.h[2]
    d := s.h[3]
    e := s.h[4]
    t := 0
    j := BitVec.ofNat 1 k }

/-- The state mixer (R135). -/
def State.mix (s : State) : State :=
  { s with h := #v[s.h[0] + s.a, s.h[1] + s.b, s.h[2] + s.c, s.h[3] + s.d, s.h[4] + s.e] }

/-- The compression of block `k` of a job: expand, load, 80 rounds, mix (R134). -/
def compressBlock (k : Nat) (blk : Block) (s : State) : Except Fault State := do
  let w ← expand blk
  let s' ← runRounds 80 (s.loadBlock k w)
  .ok s'.mix

/-- The blocks of a job, in order, each from the H the one before left (R136). -/
def compressBlocks : Nat → List Block → State → Except Fault State
  | _, [], s => .ok s
  | k, blk :: rest, s => do
    let s' ← compressBlock k blk s
    compressBlocks (k + 1) rest s'

end Sys2Proof.Machine
end

