-- ==== Sys2Proof/Machine/Engine.lean ====
section
/-! DEFINITION. The engine agent: the completion step of a job (44_commands R187). -/

namespace Sys2Proof.Machine
open Host

/-- The completion step with the job `jb`: its blocks in order, then LEN, STATE, JOB and BUSY together. RESULT and OVR
are not written, and the internal state is unspecified afterwards (44_commands R187, 10_state R38 to R40). -/
def completeJob (jb : Job) (s : State) : Outcome State Fault Refusal :=
  match compressBlocks 0 jb.blocks s with
  | .ok s' => .next (s'.finishJob jb).forgetPipeline
  | .error f => .fault f

/-- The engine's turn: the completion step when JOB is not none, else no step (44_commands R187). -/
def engineTurn (s : State) : Outcome State Fault Refusal :=
  match s.job with
  | some jb => completeJob jb s
  | none => .next s

end Sys2Proof.Machine
end

