-- ==== Sys2Proof/Machine/Turns.lean ====
section
/-! DEFINITION. One turn of the host, and one of the reset input; taking an access from the port. -/

namespace Sys2Proof.Machine
open Host

/-- The effect of an access: its instruction's, or, where it decodes to none, a bus error (20_memory R64); an access
outside the window does not reach the engine (R61). -/
def takeAccess (acc : Access) (s : State) : Outcome State Fault Refusal :=
  match decode s.base acc with
  | .ok i => exec i s
  | .error .outsideWindow => .next s
  | .error .badWidth => .next (s.raiseBusError acc.dir)
  | .error .misaligned => .next (s.raiseBusError acc.dir)
  | .error .unmapped => .next (s.raiseBusError acc.dir)

/-- Bit 0 of a read's value: what WAIT tests (30_encoding R90). -/
def Response.bit0 : Response → Bool
  | .readOk v => v.getLsbD 0
  | .writeOk => false
  | .readError v => v.getLsbD 0
  | .writeError => false

/-- The response shows BUSY = 1. -/
def State.sawBusy (s : State) : Bool :=
  match s.resp with
  | some r => r.bit0
  | none => false

/-- The host's turn: the oldest pending operation is taken (20_memory R70). WAIT reads STATUS, and stays pending while
it reads BUSY = 1 (30_encoding R90). -/
def hostTurn (s : State) : Outcome State Fault Refusal :=
  match s.pending with
  | [] => .next s
  | .access acc :: rest => takeAccess acc { s with pending := rest }
  | .wait :: rest =>
    match exec .rdStatus s with
    | .next s' => .next (if s'.sawBusy then s' else { s' with pending := rest })
    | .fault f => .fault f
    | .refused r => .refused r

/-- One turn. While reset is asserted every piece of state holds its reset value, and the host has no access step
(70_reset_and_hazards R250, R252; log 10). Releasing a line that is not asserted does nothing. -/
def takeTurn (turn : Turn) (s : State) : Outcome State Fault Refusal :=
  match turn with
  | .assertReset => .next { s.applyReset with resetLine := true }
  | .releaseReset => .next (if s.resetLine then { s.applyReset with resetLine := false } else s)
  | .engine => if s.resetLine then .next s.applyReset else engineTurn s
  | .host => if s.resetLine then .next s.applyReset else hostTurn s

/-- Who moves once `turns` has run out (log 11): the engine if it has a job, which makes every job complete
(44_commands R188), else the host. With nothing to do the engine is idle and keeps all state (60_exceptions R234). -/
def State.defaultTurn (s : State) : Turn := if s.job.isSome then .engine else .host

/-- One step of the machine: the next turn. -/
def nextTurn (s : State) : Outcome State Fault Refusal :=
  match s.turns with
  | turn :: rest => takeTurn turn { s with turns := rest }
  | [] => takeTurn s.defaultTurn s

/-- `acc` is the next operation of the host, it is the host's turn, and reset is not asserted. -/
def State.placeAccess (acc : Access) (s : State) : State :=
  { s with pending := .access acc :: s.pending, turns := .host :: s.turns, resetLine := false }

end Sys2Proof.Machine
end

