-- ==== Sys2Proof/Machine/Step.lean ====
section
/-! DEFINITION. One step of the machine, and where it fetches its next instruction. -/

namespace Sys2Proof.Machine

/-- One step: one turn of the host, the engine or the reset input. -/
def step (s : State) : Host.Outcome State Fault Refusal := nextTurn s

/-- `s` with the access of a table word of `nbits` bits as the host's next operation, on the host's turn (log 8, log 9).
A word that is no access of the table's form leaves `s` as it is. -/
def State.withFetchWord (s : State) (nbits w : Nat) : State :=
  match tableAccess s.base nbits w with
  | some acc => s.placeAccess acc
  | none => s

end Sys2Proof.Machine
end

