-- ==== Sys2Proof/Machine/HostProgram.lean ====
section
/-! DEFINITION. The pseudo-instructions of host programs and their expansions (30_encoding R90), as lists of
operations to be placed in `pending`. -/

namespace Sys2Proof.Machine

/-- One access of a host program, at the window `base` (30_encoding R89). -/
def asm (base : Nat) (i : Instr) : HostOp := .access (encode base i)

/-- `LOADBLK v0, ..., v15` (R90). -/
def loadBlk (base : Nat) (blk : Block) : List HostOp :=
  (List.finRange 16).map fun i => asm base (.wrData i blk[i])

/-- `LOADBYTES m`, for at most 64 bytes: `ceil(|m| / 4)` DATA words, missing bytes taken as 0 (R90). -/
def loadBytes (base : Nat) (m : List Byte) : List HostOp :=
  ((List.finRange 16).take ((m.length + 3) / 4)).map fun i =>
    asm base (.wrData i (be32 (m.getD (4 * i.val) 0) (m.getD (4 * i.val + 1) 0) (m.getD (4 * i.val + 2) 0)
      (m.getD (4 * i.val + 3) 0)))

/-- `GETDIGEST` (R90). -/
def getDigest (base : Nat) : List HostOp :=
  [.rdDigest0, .rdDigest1, .rdDigest2, .rdDigest3, .rdDigest4].map (asm base)

/-- `GETHEX` (R90). -/
def getHex (base : Nat) : List HostOp :=
  [.rdHex0, .rdHex1, .rdHex2, .rdHex3, .rdHex4, .rdHex5, .rdHex6, .rdHex7, .rdHex8, .rdHex9].map (asm base)

/-- `HASHTAIL n`: `FINALIZE n; WAIT` (R90). -/
def hashTail (base : Nat) (n : BitVec 7) : List HostOp := [asm base (.finalize n), .wait]

/-- `BLOCKSTEP v0..v15`: `LOADBLK; COMPRESS; WAIT` (R90). -/
def blockStep (base : Nat) (blk : Block) : List HostOp := loadBlk base blk ++ [asm base .compress, .wait]

end Sys2Proof.Machine
end

