-- ==== Sys2Proof/Machine/Platform.lean ====
section
/-! DEFINITION. A platform of N_INST engine instances (60_exceptions R236, 20_memory R61): each has its own window
and its own complete state, and nothing is shared. -/

namespace Sys2Proof.Machine

/-- N_INST is the length of the list. -/
structure Platform where
  instances : List State
  deriving DecidableEq, Repr

/-- The host address is in the instance's window (20_memory R61). -/
def State.inWindow (s : State) (addr : Nat) : Bool :=
  s.base ≤ addr && addr < s.base + Config.windowBytes

/-- The windows do not overlap (20_memory R61). -/
def Platform.Disjoint (p : Platform) : Prop :=
  p.instances.Pairwise fun s s' => ∀ addr, ¬ (s.inWindow addr = true ∧ s'.inWindow addr = true)

/-- An access arrives at the instance whose window holds its address, behind the accesses already there (20_memory R70). -/
def Platform.send (acc : Access) (p : Platform) : Platform :=
  ⟨p.instances.map fun s => if s.inWindow acc.addr then { s with pending := s.pending ++ [.access acc] } else s⟩

/-- One step of instance `k` (log 16). -/
def Platform.stepAt (k : Nat) (p : Platform) : Host.Outcome Platform Fault Refusal :=
  match p.instances[k]? with
  | none => .next p
  | some s =>
    match step s with
    | .next s' => .next ⟨p.instances.set k s'⟩
    | .fault f => .fault f
    | .refused r => .refused r

end Sys2Proof.Machine
end

