-- ==== Sys2Proof/Machine/Reference.lean ====
section
/-! DEFINITION. The algorithm as the rules give it whole, as total functions on words, without registers and without
faults. Statements compare the engine's datapath with these. -/

namespace Sys2Proof.Machine

/-- `Expand(B)` up to word `16 + n` (41_schedule_expander R123), without faults. -/
def pureScheduleUpTo (blk : Block) : (n : Nat) → n ≤ 64 → Schedule
  | 0, _ => loadSchedule blk
  | n + 1, h =>
    let w := pureScheduleUpTo blk n (by omega)
    w.set (16 + n) (rotlBits (w[13 + n] ^^^ w[8 + n] ^^^ w[2 + n] ^^^ w[n]) 1)

/-- `Expand(B)` (41_schedule_expander R123). -/
def pureSchedule (blk : Block) : Schedule := pureScheduleUpTo blk 64 (by omega)

/-- The 16-word window of 41_schedule_expander R124, before round `16 + n`. -/
def windowUpTo (blk : Block) : Nat → Block
  | 0 => blk
  | n + 1 =>
    let q := windowUpTo blk n
    q.set ((16 + n) % 16)
      (rotlBits (q[(16 + n - 3) % 16] ^^^ q[(16 + n - 8) % 16] ^^^ q[(16 + n - 14) % 16] ^^^ q[(16 + n) % 16]) 1)

/-- The word the window gives to round `16 + n` (41_schedule_expander R124). -/
def windowWord (blk : Block) (n : Nat) : Word := (windowUpTo blk (n + 1))[(16 + n) % 16]

/-- The five working variables (10_state R39). -/
structure Working where
  a : Word
  b : Word
  c : Word
  d : Word
  e : Word
  deriving DecidableEq, Repr

/-- One round (42_round_pipeline R131, R132). -/
def pureRound (w : Schedule) (t : Fin 80) (v : Working) : Working where
  a := rotlBits v.a 5 + classFun (stepClass t) v.b v.c v.d + v.e + classConst (stepClass t) + w[t]
  b := v.a
  c := rotlBits v.b 30
  d := v.c
  e := v.d

/-- The first `n` rounds (42_round_pipeline R133). -/
def pureRounds (w : Schedule) : (n : Nat) → n ≤ 80 → Working → Working
  | 0, _, v => v
  | n + 1, h, v => pureRound w ⟨n, h⟩ (pureRounds w n (by omega) v)

/-- `Compress(H, B)` (42_round_pipeline R134). -/
def pureCompress (h : Hash) (blk : Block) : Hash :=
  let v := pureRounds (pureSchedule blk) 80 (by omega) ⟨h[0], h[1], h[2], h[3], h[4]⟩
  #v[h[0] + v.a, h[1] + v.b, h[2] + v.c, h[3] + v.d, h[4] + v.e]

/-- The source's padded message: marker, the least zeros that leave 8 bytes of a block, the bit length (43_padder R156). -/
def paddedMessage (m : List Byte) : List Byte :=
  m ++ [0x80] ++ List.replicate ((119 - m.length % 64) % 64) 0 ++ be64 (BitVec.ofNat 64 (8 * m.length))

/-- The whole blocks of a message, given to COMPRESS in order, and then the blocks FINALIZE makes of its tail (43_padder R156). -/
def messageBlocks (m : List Byte) : Option (List Block) :=
  let k := m.length / 64
  (pad (m.drop (64 * k)) m.length).map (blocksOfBytes k m ++ ·)

end Sys2Proof.Machine
end

