-- ==== Sys2Proof/Safety.lean ====
section
/-! DEFINITION. What the rules of the spec promise of every reachable state, and a safe step. -/

namespace Sys2Proof.Machine

/-- A job in flight: one or two blocks, a new length within the limit, and a legal new state (10_state R37, 44_commands R176, R182). -/
def Job.Legal (jb : Job) : Prop :=
  (jb.blocks.length = 1 ∨ jb.blocks.length = 2) ∧
  jb.newLen.toNat ≤ Config.lenLimit ∧
  (jb.newState = .absorbing ∨ jb.newState = .finalized) ∧
  (jb.newState = .finalized → jb.newLen.toNat < Config.lenLimit)

/-- The registers that reset gives a value hold it (10_state R41). -/
def State.AtReset (s : State) : Prop :=
  s.h = iv ∧ s.len = 0 ∧ s.data = Vector.replicate 16 0 ∧ s.lifeState = .created ∧ s.busy = false ∧
  s.ovr = false ∧ s.result = .ok ∧ s.job = none

/-- The invariant of a reachable state. -/
structure State.Inv (s : State) : Prop where
  /-- BUSY = 1 exactly when JOB is not none (10_state R37) -/
  busy_iff_job : s.busy = s.job.isSome
  /-- LEN never exceeds 2^61 (10_state R24) -/
  len_bound : s.len.toNat ≤ Config.lenLimit
  /-- the job in flight is one that acceptance makes (10_state R37) -/
  job_legal : ∀ jb, s.job = some jb → jb.Legal
  /-- BUSY = 1 implies STATE is CREATED or ABSORBING (44_commands R181) -/
  busy_state : s.busy = true → s.lifeState = .created ∨ s.lifeState = .absorbing
  /-- while busy RESULT is OK (92_eei_decisions D36) -/
  busy_ok : s.busy = true → s.result = .ok
  /-- in CREATED no block has been compressed: H = IV and LEN = 0 (10_state R26, R22) -/
  created_fresh : s.lifeState = .created → s.h = iv ∧ s.len = 0
  /-- a finalized message is below the size limit (43_padder R155) -/
  finalized_bound : s.lifeState = .finalized → s.len.toNat < Config.lenLimit
  /-- while reset is asserted the registers hold their reset values (70_reset_and_hazards R250) -/
  reset_holds : s.resetLine = true → s.AtReset
  /-- BASE is a multiple of 256 (20_memory R61) -/
  base_aligned : s.base % Config.windowBytes = 0

/-- The step goes on: no fault and no refusal. -/
def State.StepsOn (s : State) : Prop := ∃ s', step s = .next s'

end Sys2Proof.Machine
end

