-- ==== Sys2Proof/Certificates/Slice0/Obligations.lean ====
section
/-! DEFINITION. The statements for the provers, each about the machine, with the rule of spec/ it rests on. The few
words they share (fields of a command word as numbers, the digit of a nibble, who moves next) come first. -/

namespace Sys2Proof.Statements
open Sys2Proof.Machine

/-- `w[3:0]` (30_encoding R80). -/
def opOf (w : Word) : Nat := w.toNat % 16

/-- `w[14:8]` (30_encoding R82). -/
def nbytesOf (w : Word) : Nat := w.toNat / 2 ^ 8 % 128

/-- The four conditions of 30_encoding R83. -/
def IllegalWord (w : Word) : Prop :=
  w.toNat / 2 ^ 15 ≠ 0 ∨ w.toNat / 2 ^ 4 % 16 ≠ 0 ∨ ¬ (opOf w = 1 ∨ opOf w = 2 ∨ opOf w = 3) ∨
    (opOf w = 1 ∧ nbytesOf w ≠ 0)

/-- The two conditions of 30_encoding R84. -/
def MalformedWord (w : Word) : Prop :=
  ¬ IllegalWord w ∧ ((opOf w = 2 ∧ nbytesOf w ≠ 64) ∨ (opOf w = 3 ∧ nbytesOf w > 63))

/-- STATE is CREATED or ABSORBING. -/
def InputAllowed (s : State) : Prop := s.lifeState = .created ∨ s.lifeState = .absorbing

/-- Who moves in the next step (log 1, log 11). -/
def mover (s : State) : Turn := s.turns.head?.getD s.defaultTurn

/-- The ASCII code of a hexadecimal digit (45_digest_serializer R210; log 18). -/
def digitCode (n : Nat) : Nat := if n ≤ 9 then 0x30 + n else 0x61 + (n - 10)

/-- Nibble j of the digest, j = 0 the first: `H[j div 8][31 - 4*(j mod 8) : 28 - 4*(j mod 8)]` (45_digest_serializer R211). -/
def nibbleOf (h : Hash) (j : Nat) : Nat := (h.toList.getD (j / 8) 0).toNat / 16 ^ (7 - j % 8) % 16

/-- The number HEX[k] holds for the hash `h` (45_digest_serializer R212). -/
def hexNumber (h : Hash) (k : Nat) : Nat :=
  digitCode (nibbleOf h (4 * k)) * 2 ^ 24 + digitCode (nibbleOf h (4 * k + 1)) * 2 ^ 16 +
    digitCode (nibbleOf h (4 * k + 2)) * 2 ^ 8 + digitCode (nibbleOf h (4 * k + 3))

/-- Byte `p` of a list of blocks, as a number: the bytes of each word, the most significant first (43_padder R153). -/
def byteOf (blocks : List Block) (p : Nat) : Nat :=
  ((blocks.getD (p / 64) (Vector.replicate 16 0)).toList.getD (p % 64 / 4) 0).toNat / 256 ^ (3 - p % 4) % 256

/-- The register read `i` completes with `v` and changes nothing but the response on the bus. -/
def ReadsExactly (i : Instr) (v : Word) (s : State) : Prop :=
  exec i s = .next { s with resp := some (.readOk v) }

/-- The register read `i` completes with some value, and only the response and the draw counter change (log 4). -/
def ReadsSomething (i : Instr) (s : State) : Prop :=
  ∃ v, exec i s = .next { s with resp := some (.readOk v), draws := s.draws + 1 }

/-- The register write `i` completes and changes nothing but the response on the bus. -/
def WriteHasNoEffect (i : Instr) (s : State) : Prop :=
  exec i s = .next { s with resp := some .writeOk }

/-- The blocks are given to COMPRESS one after another, from `s` to `s'`: each stands in DATA, is latched as the one block
of a job, and the engine completes the job. -/
def AbsorbsAll : List Block → State → State → Prop
  | [], s, s' => s' = s
  | blk :: rest, s, s' => ∃ s₁ s₂, exec .compress { s with data := blk } = .next s₁ ∧
      s₁.job.map Job.blocks = some [blk] ∧ engineTurn s₁ = .next s₂ ∧ AbsorbsAll rest s₂ s'

/-- The instruction is a write to CTRL. -/
def IsCtrlWrite (i : Instr) : Prop :=
  i = .init ∨ i = .compress ∨ (∃ n, i = .finalize n) ∨ ∃ v, i = .wrCtrl v

/-- The instruction is INIT, under either spelling. -/
def IsInit (i : Instr) : Prop := i = .init ∨ i = .wrCtrl 0x00000001

end Sys2Proof.Statements

open Sys2Proof Sys2Proof.Machine Sys2Proof.Statements Host

/-! ### Reset -/

/-- 10_state R41: the table of reset values, and what CTRL and STATUS read then. -/
def Obligations.ResetStateHoldsResetValues : Prop :=
  State.reset.h = #v[0x67452301, 0xEFCDAB89, 0x98BADCFE, 0x10325476, 0xC3D2E1F0] ∧ State.reset.len = 0 ∧
  (∀ i : Fin 16, State.reset.data[i] = 0) ∧ State.reset.lifeState = .created ∧ State.reset.busy = false ∧
  State.reset.ovr = false ∧ State.reset.result = .ok ∧ State.reset.job = none ∧
  ReadsExactly .rdCtrl 0x00000000 State.reset ∧ ReadsExactly .rdStatus 0x00000000 State.reset

/-- 70_reset_and_hazards R250, R251: while the reset input is asserted and when it is released, the registers take
their reset values, a job in flight is discarded, and no error is recorded. What the host has lined up stays (log 19). -/
def Obligations.ResetInputRestoresRegistersAndDiscardsJob : Prop :=
  ∀ s ts, (s.turns = .assertReset :: ts ∨ (s.turns = .releaseReset :: ts ∧ s.resetLine = true)) →
    ∃ s', step s = .next s' ∧ s'.AtReset ∧ s'.turns = ts ∧ s'.pending = s.pending ∧ s'.resp = s.resp ∧
      s'.base = s.base ∧ (s'.resetLine = true ↔ s.turns = .assertReset :: ts) ∧
      (s.busy = false → s.job = none → ∃ s'', exec .init s = .next s'' ∧ s''.h = s'.h ∧ s''.len = s'.len ∧
        s''.lifeState = s'.lifeState ∧ s''.busy = s'.busy ∧ s''.ovr = s'.ovr ∧ s''.result = s'.result ∧
        s''.job = s'.job ∧ s''.data = s.data)

/-- 70_reset_and_hazards R252: while reset is asserted the host has no access step. Its accesses stay pending (log 1, log 10). -/
def Obligations.HostTakesNoAccessWhileResetIsAsserted : Prop :=
  ∀ s, s.resetLine = true → mover s ≠ .releaseReset →
    ∃ s', step s = .next s' ∧ s'.pending = s.pending ∧ s'.resp = s.resp ∧ s'.AtReset ∧ s'.resetLine = true

/-! ### Decoding -/

/-- 30_encoding R85, R86: what each of the 2^32 words decodes to. -/
def Obligations.EveryCommandWordDecodesAsTheEncodingSays : Prop :=
  ∀ w : Word,
    (decodeCmd w = .init ↔ w = 0x00000001) ∧
    (decodeCmd w = .compress ↔ w = 0x00004002) ∧
    (∀ n : BitVec 7, decodeCmd w = .finalize n ↔ n.toNat ≤ 63 ∧ w.toNat = 0x00000003 + n.toNat * 2 ^ 8) ∧
    ((∃ n, decodeCmd w = .finalize n) ↔ w &&& 0xFFFFC0FF = 0x00000003) ∧
    (decodeCmd w = .illegal ↔ IllegalWord w) ∧
    (decodeCmd w = .malformed ↔ MalformedWord w)

/-- Sanity: words and descriptors written out from 30_encoding R85 and R88. -/
def Obligations.SpelledOutWordsDecode : Prop :=
  decodeTableWord 32 0x00000001 = some .init ∧
  decodeTableWord 32 0x00004002 = some .compress ∧
  decodeTableWord 32 0x00003F03 = some (.finalize 63) ∧
  decodeTableWord 48 0x000040030100 = some (.wrCtrl 0x00004003) ∧
  decodeTableWord 16 0x0004 = some .rdStatus ∧
  decodeTableWord 16 0x0020 = some .rdDigest4 ∧
  decodeTableWord 16 0x007C = some (.rdData 15) ∧
  decodeTableWord 48 0xDEADBEEF0154 = some (.wrData 5 0xDEADBEEF) ∧
  decodeTableWord 16 0x00A4 = some .rdHex9 ∧
  decodeTableWord 48 0xFFFFFFFF0104 = some (.wrStatus 0xFFFFFFFF) ∧
  decodeTableWord 16 0x0024 = none

/-- 30_encoding R85, R88: no bit of an encoding is dropped. -/
def Obligations.DecodeOfEncodeIsTheInstruction : Prop :=
  ∀ base i, Instr.wf i = true → decode base (encode base i) = .ok i

/-- 30_encoding R88: each access has one meaning, and the encoder gives that access back (a read's data lines carry nothing). -/
def Obligations.EncodeOfDecodeIsTheAccess : Prop :=
  ∀ base acc i, decode base acc = .ok i →
    Instr.wf i = true ∧ encode base i = { acc with data := if acc.dir = .write then acc.data else 0 }

/-- 20_memory R60, R63, R65: which accesses in the window reach a register. -/
def Obligations.ExactlyTheMappedAlignedWordsDecode : Prop :=
  ∀ base off dir width (v : Word), off < 256 →
    ((∃ i, decode base ⟨dir, width, base + off, v⟩ = .ok i) ↔
      width = .w32 ∧ off % 4 = 0 ∧
        (off ≤ 0x20 ∨ (0x40 ≤ off ∧ off ≤ 0x7C) ∨ (0x80 ≤ off ∧ off ≤ 0xA4)))

/-- The opcode table's words reach the decoder and the step alike, wherever the window is (log 8, log 9). -/
def Obligations.TableWordRunsAsTheNextInstruction : Prop :=
  ∀ (nbits w : Nat) (i : Instr) (s : State), decodeTableWord nbits w = some i →
    step (s.withFetchWord nbits w) = exec i { s with resetLine := false }

/-! ### One step -/

/-- 20_memory R70: on the host's turn the oldest pending access runs as the instruction it decodes to (log 1, log 11). -/
def Obligations.StepRunsTheDecodedInstruction : Prop :=
  ∀ s acc rest i, s.resetLine = false → s.pending = .access acc :: rest → decode s.base acc = .ok i →
    (∀ ts, s.turns = .host :: ts → step s = exec i { s with turns := ts, pending := rest }) ∧
    (s.turns = [] → s.job = none → step s = exec i { s with pending := rest })

/-- 20_memory R64, R65: an access of a wrong width or alignment, and one to an unmapped offset, gets the error
response, with read data 0, and has no effect on the engine (log 1, log 2). -/
def Obligations.BadAccessIsABusErrorWithoutEffect : Prop :=
  ∀ s ts acc rest off, s.resetLine = false → s.turns = .host :: ts → s.pending = .access acc :: rest →
    acc.addr = s.base + off → off < 256 →
    (acc.width ≠ .w32 ∨ off % 4 ≠ 0 ∨ (0x24 ≤ off ∧ off ≤ 0x3C) ∨ 0xA8 ≤ off) →
    (acc.dir = .read →
      step s = .next { s with turns := ts, pending := rest, resp := some (.readError 0x00000000) }) ∧
    (acc.dir = .write → step s = .next { s with turns := ts, pending := rest, resp := some .writeError })

/-- 20_memory R61: an address outside the window does not reach the engine (log 1, log 15). -/
def Obligations.AccessOutsideTheWindowDoesNotReachTheEngine : Prop :=
  ∀ s ts acc rest, s.resetLine = false → s.turns = .host :: ts → s.pending = .access acc :: rest →
    (acc.addr < s.base ∨ s.base + 256 ≤ acc.addr) →
    step s = .next { s with turns := ts, pending := rest }

/-- 30_encoding R90: WAIT reads STATUS, and goes on only once it reads BUSY = 0 (log 1, log 12). -/
def Obligations.WaitPollsUntilBusyIsZero : Prop :=
  ∀ s ts rest, s.resetLine = false → s.turns = .host :: ts → s.pending = .wait :: rest →
    ∃ v : Word, ReadsExactly .rdStatus v s ∧
      step s = .next { s with turns := ts, resp := some (.readOk v),
                              pending := if s.busy then .wait :: rest else rest }

/-- 60_exceptions R234, 44_commands R187: whoever has nothing to do changes no state: the engine with no job, the host with
nothing pending, a release of a reset that is not asserted; and both agents idle, with no turn lined up (log 1, log 11). -/
def Obligations.IdleMachineKeepsAllState : Prop :=
  ∀ s, s.resetLine = false →
    (∀ ts, s.turns = .engine :: ts → s.job = none → step s = .next { s with turns := ts }) ∧
    (∀ ts, s.turns = .host :: ts → s.pending = [] → step s = .next { s with turns := ts }) ∧
    (∀ ts, s.turns = .releaseReset :: ts → step s = .next { s with turns := ts }) ∧
    (s.turns = [] → s.pending = [] → s.job = none → step s = .next s)

/-! ### Commands -/

/-- 44_commands R172: INIT, when not busy, dropped when busy, twice, as the one way out of FAILED, and its word. -/
def Obligations.InitStartsAFreshMessage : Prop :=
  ∀ s : State,
    (s.busy = false →
      exec .init s = .next { s with
        h := #v[0x67452301, 0xEFCDAB89, 0x98BADCFE, 0x10325476, 0xC3D2E1F0]
        len := 0
        lifeState := .created
        ovr := false
        result := .ok
        resp := some .writeOk }) ∧
    (s.busy = true → exec .init s = .next { s with ovr := true, resp := some .writeOk }) ∧
    (∀ s', exec .init s = .next s' → exec .init s' = .next s') ∧
    (∀ i s', s.lifeState = .failed → exec i s = .next s' → s'.lifeState ≠ .failed → IsInit i) ∧
    exec (.wrCtrl 0x00000001) s = exec .init s

/-- 44_commands R176: COMPRESS accepted: the block is latched, LEN is to saturate at 2^61, and H, LEN and STATE do not change yet. -/
def Obligations.CompressIsAcceptedWithTheBlockLatched : Prop :=
  ∀ s : State, s.busy = false → InputAllowed s →
    exec .compress s = .next { s with
      job := some { blocks := [s.data]
                    newLen := BitVec.ofNat 64 (min (s.len.toNat + 64) (2 ^ 61))
                    newState := .absorbing }
      busy := true
      result := .ok
      resp := some .writeOk }

/-- 44_commands R182, R184: FINALIZE n, accepted with the padded tail latched, or rejected with OVERSIZE. -/
def Obligations.FinalizeIsAcceptedOrOversize : Prop :=
  ∀ (s : State) (n : BitVec 7), s.busy = false → InputAllowed s → n.toNat ≤ 63 →
    (s.len.toNat + n.toNat < 2 ^ 61 →
      ∃ blocks, pad (tailBytes s.data n.toNat) (s.len.toNat + n.toNat) = some blocks ∧
        blocks.length = (if n.toNat ≤ 55 then 1 else 2) ∧
        exec (.finalize n) s = .next { s with
          job := some { blocks := blocks
                        newLen := BitVec.ofNat 64 (s.len.toNat + n.toNat)
                        newState := .finalized }
          busy := true
          result := .ok
          resp := some .writeOk }) ∧
    (s.len.toNat + n.toNat ≥ 2 ^ 61 →
      exec (.finalize n) s = .next { s with result := .oversize, lifeState := .failed, resp := some .writeOk })

/-- 44_commands R171: a CTRL write while busy is dropped, whatever the word. -/
def Obligations.CtrlWriteWhileBusyOnlySetsOverrun : Prop :=
  ∀ s i, s.busy = true → IsCtrlWrite i → exec i s = .next { s with ovr := true, resp := some .writeOk }

/-- 30_encoding R83, R84: ILLEGAL and MALFORMED words are rejected and have no other effect. -/
def Obligations.UndefinedWordsAreRejectedWithoutEffect : Prop :=
  ∀ (s : State) (w : Word), s.busy = false →
    (IllegalWord w → exec (.wrCtrl w) s = .next { s with result := .illegal, resp := some .writeOk }) ∧
    (MalformedWord w → exec (.wrCtrl w) s = .next { s with result := .malformed, resp := some .writeOk }) ∧
    (∀ n : BitVec 7, n.toNat > 63 →
      exec (.finalize n) s = .next { s with result := .malformed, resp := some .writeOk })

/-- 44_commands R181: the legality table, for a word that decodes as a command: what RESULT and BUSY show. -/
def Obligations.LegalityOfCommandsByState : Prop :=
  ∀ (s : State) (n : BitVec 7), s.busy = false → n.toNat ≤ 63 →
    (∃ s', exec .init s = .next s' ∧ s'.result = .ok ∧ s'.busy = false) ∧
    (InputAllowed s → ∃ s', exec .compress s = .next s' ∧ s'.result = .ok ∧ s'.busy = true) ∧
    (InputAllowed s → ∃ s', exec (.finalize n) s = .next s' ∧
      ((s'.result = .ok ∧ s'.busy = true) ∨ (s'.result = .oversize ∧ s'.busy = false))) ∧
    (¬ InputAllowed s →
      exec .compress s = .next { s with result := .badState, resp := some .writeOk } ∧
      exec (.finalize n) s = .next { s with result := .badState, resp := some .writeOk })

/-- 60_exceptions R222: the one outcome that a CTRL write reports, the first that applies. -/
def Obligations.CtrlWriteReportsTheFirstConditionThatApplies : Prop :=
  ∀ (s : State) (w : Word), ∃ s', exec (.wrCtrl w) s = .next s' ∧
    (s.busy = true → s'.result = s.result ∧ s'.ovr = true) ∧
    (s.busy = false → IllegalWord w → s'.result = .illegal) ∧
    (s.busy = false → MalformedWord w → s'.result = .malformed) ∧
    (s.busy = false → ¬ IllegalWord w → ¬ MalformedWord w → opOf w ≠ 1 → ¬ InputAllowed s → s'.result = .badState) ∧
    (s.busy = false → ¬ IllegalWord w → ¬ MalformedWord w → opOf w = 3 → InputAllowed s →
      s.len.toNat + nbytesOf w ≥ 2 ^ 61 → s'.result = .oversize) ∧
    (s.busy = false → ¬ IllegalWord w → ¬ MalformedWord w →
      (opOf w = 1 ∨ (InputAllowed s ∧ (opOf w = 2 ∨ s.len.toNat + nbytesOf w < 2 ^ 61))) → s'.result = .ok)

/-- 44_commands R170, 30_encoding R89: a CTRL write of a defined command word is that command, whether it is
taken under its own name or as WR CTRL (log 7). -/
def Obligations.CtrlWriteOfACommandWordIsTheCommand : Prop :=
  ∀ (s : State) (n : BitVec 7), n.toNat ≤ 63 →
    exec (.wrCtrl 0x00000001) s = exec .init s ∧
    exec (.wrCtrl 0x00004002) s = exec .compress s ∧
    exec (.wrCtrl (BitVec.ofNat 32 (0x00000003 + n.toNat * 2 ^ 8))) s = exec (.finalize n) s

/-! ### Register accesses -/

/-- 44_commands R190: the word STATUS reads, busy or not; only the response on the bus changes. -/
def Obligations.StatusReadShowsItsFields : Prop :=
  ∀ s : State, ∃ v : Word, ReadsExactly .rdStatus v s ∧
    v.toNat = s.busy.toNat + 2 * (if s.lifeState = .finalized then 1 else 0) + 4 * s.ovr.toNat +
      16 * (match s.lifeState with | .created => 0 | .absorbing => 1 | .finalized => 2 | .failed => 3) +
      256 * (match s.result with | .ok => 0 | .illegal => 1 | .malformed => 2 | .badState => 3 | .oversize => 4)

/-- 44_commands R191: LEN_LO and LEN_HI, exact when not busy, some value while busy. -/
def Obligations.LengthReadsGiveTheHalvesOfTheCounter : Prop :=
  ∀ s : State,
    (s.busy = false →
      ReadsExactly .rdLenLo (BitVec.ofNat 32 (s.len.toNat % 2 ^ 32)) s ∧
      ReadsExactly .rdLenHi (BitVec.ofNat 32 (s.len.toNat / 2 ^ 32)) s) ∧
    (s.busy = true → ReadsSomething .rdLenLo s ∧ ReadsSomething .rdLenHi s)

/-- 45_digest_serializer R213: DIGEST[0..4]. -/
def Obligations.DigestReadsShowTheHashState : Prop :=
  ∀ s : State,
    (s.busy = true →
      ReadsSomething .rdDigest0 s ∧ ReadsSomething .rdDigest1 s ∧ ReadsSomething .rdDigest2 s ∧
      ReadsSomething .rdDigest3 s ∧ ReadsSomething .rdDigest4 s) ∧
    (s.busy = false → s.lifeState = .failed →
      ReadsExactly .rdDigest0 0x00000000 s ∧ ReadsExactly .rdDigest1 0x00000000 s ∧
      ReadsExactly .rdDigest2 0x00000000 s ∧ ReadsExactly .rdDigest3 0x00000000 s ∧
      ReadsExactly .rdDigest4 0x00000000 s) ∧
    (s.busy = false → s.lifeState ≠ .failed →
      ReadsExactly .rdDigest0 s.h[0] s ∧ ReadsExactly .rdDigest1 s.h[1] s ∧ ReadsExactly .rdDigest2 s.h[2] s ∧
      ReadsExactly .rdDigest3 s.h[3] s ∧ ReadsExactly .rdDigest4 s.h[4] s)

/-- 45_digest_serializer R210, R212, R214: HEX[0..9], with the characters as numbers. The digit codes are ASCII from
general knowledge (R210; log 18). -/
def Obligations.HexReadsShowTheDigestCharacters : Prop :=
  ∀ s : State,
    (s.busy = true →
      ReadsSomething .rdHex0 s ∧ ReadsSomething .rdHex1 s ∧ ReadsSomething .rdHex2 s ∧ ReadsSomething .rdHex3 s ∧
      ReadsSomething .rdHex4 s ∧ ReadsSomething .rdHex5 s ∧ ReadsSomething .rdHex6 s ∧ ReadsSomething .rdHex7 s ∧
      ReadsSomething .rdHex8 s ∧ ReadsSomething .rdHex9 s) ∧
    (s.busy = false → ∀ f : Nat → Nat, (∀ k, f k = if s.lifeState = .failed then 0 else hexNumber s.h k) →
      ReadsExactly .rdHex0 (BitVec.ofNat 32 (f 0)) s ∧ ReadsExactly .rdHex1 (BitVec.ofNat 32 (f 1)) s ∧
      ReadsExactly .rdHex2 (BitVec.ofNat 32 (f 2)) s ∧ ReadsExactly .rdHex3 (BitVec.ofNat 32 (f 3)) s ∧
      ReadsExactly .rdHex4 (BitVec.ofNat 32 (f 4)) s ∧ ReadsExactly .rdHex5 (BitVec.ofNat 32 (f 5)) s ∧
      ReadsExactly .rdHex6 (BitVec.ofNat 32 (f 6)) s ∧ ReadsExactly .rdHex7 (BitVec.ofNat 32 (f 7)) s ∧
      ReadsExactly .rdHex8 (BitVec.ofNat 32 (f 8)) s ∧ ReadsExactly .rdHex9 (BitVec.ofNat 32 (f 9)) s)

/-- 45_digest_serializer R210, R216: outside FAILED every character HEX shows is one of `[0-9a-f]`; in FAILED every byte
is 0. The ranges of the digit codes are ASCII from general knowledge (R210; log 18). -/
def Obligations.HexTextIsLowercaseHexadecimal : Prop :=
  ∀ (s s' : State) (i : Instr) (v : Word) (m : Fin 4),
    i ∈ [.rdHex0, .rdHex1, .rdHex2, .rdHex3, .rdHex4, .rdHex5, .rdHex6, .rdHex7, .rdHex8, .rdHex9] →
    s.busy = false → exec i s = .next s' → s'.resp = some (.readOk v) →
    (s.lifeState = .failed → v.toNat / 256 ^ m.val % 256 = 0) ∧
    (s.lifeState ≠ .failed →
      (0x30 ≤ v.toNat / 256 ^ m.val % 256 ∧ v.toNat / 256 ^ m.val % 256 ≤ 0x39) ∨
      (0x61 ≤ v.toNat / 256 ^ m.val % 256 ∧ v.toNat / 256 ^ m.val % 256 ≤ 0x66))

/-- 20_memory R66: a write to a read-only register completes and has no effect, and CTRL reads 0. -/
def Obligations.ReadOnlyRegistersIgnoreWritesAndCtrlReadsZero : Prop :=
  ∀ (s : State) (v : Word),
    ReadsExactly .rdCtrl 0x00000000 s ∧
    WriteHasNoEffect (.wrStatus v) s ∧ WriteHasNoEffect (.wrLenLo v) s ∧ WriteHasNoEffect (.wrLenHi v) s ∧
    WriteHasNoEffect (.wrDigest0 v) s ∧ WriteHasNoEffect (.wrDigest1 v) s ∧ WriteHasNoEffect (.wrDigest2 v) s ∧
    WriteHasNoEffect (.wrDigest3 v) s ∧ WriteHasNoEffect (.wrDigest4 v) s ∧
    WriteHasNoEffect (.wrHex0 v) s ∧ WriteHasNoEffect (.wrHex1 v) s ∧ WriteHasNoEffect (.wrHex2 v) s ∧
    WriteHasNoEffect (.wrHex3 v) s ∧ WriteHasNoEffect (.wrHex4 v) s ∧ WriteHasNoEffect (.wrHex5 v) s ∧
    WriteHasNoEffect (.wrHex6 v) s ∧ WriteHasNoEffect (.wrHex7 v) s ∧ WriteHasNoEffect (.wrHex8 v) s ∧
    WriteHasNoEffect (.wrHex9 v) s

/-- 44_commands R192, R193: WR DATA[i] writes that word alone, busy or not, and RD DATA reads it back. -/
def Obligations.DataWriteThenReadReturnsTheWord : Prop :=
  ∀ (s : State) (i : Fin 16) (v : Word),
    ReadsExactly (.rdData i) s.data[i] s ∧
    ∃ s', exec (.wrData i v) s = .next s' ∧ s' = { s with data := s'.data, resp := some .writeOk } ∧
      ReadsExactly (.rdData i) v s' ∧ ∀ k : Fin 16, k ≠ i → ReadsExactly (.rdData k) s.data[k] s'

/-- 20_memory R68, 45_digest_serializer R215: no read has a side effect; when not busy, a second read returns the same. -/
def Obligations.NoReadHasASideEffect : Prop :=
  ∀ (s : State) (i : Instr), (encode s.base i).dir = .read →
    ∃ v d, exec i s = .next { s with resp := some (.readOk v), draws := d } ∧
      (s.busy = false → d = s.draws ∧ ∀ r, exec i { s with resp := r } = .next { s with resp := some (.readOk v) })

/-! ### Whole-machine rules -/

/-- 10_state R21: of all instructions only INIT writes H, and it writes the IV. -/
def Obligations.NoInstructionButInitWritesTheHashState : Prop :=
  ∀ i s s', exec i s = .next s' → s'.h ≠ s.h →
    IsInit i ∧ s.busy = false ∧ s'.h = #v[0x67452301, 0xEFCDAB89, 0x98BADCFE, 0x10325476, 0xC3D2E1F0]

/-- 10_state R25: only the host's WR DATA and reset write DATA; the engine never does (log 1). -/
def Obligations.OnlyDataWritesAndResetChangeTheBlockBuffer : Prop :=
  ∀ s s', step s = .next s' → s.resetLine = false → mover s ≠ .assertReset → s'.data ≠ s.data →
    mover s = .host ∧ ∃ acc rest i v, s.pending = .access acc :: rest ∧ decode s.base acc = .ok (.wrData i v)

/-- 10_state R30: OVR is set by a CTRL write while busy, cleared by an accepted INIT and by reset, and else unchanged (log 1). -/
def Obligations.OverrunIsStickyUntilInitOrReset : Prop :=
  (∀ i s s', exec i s = .next s' → s'.ovr ≠ s.ovr →
    (s'.ovr = true ∧ s.busy = true ∧ IsCtrlWrite i) ∨ (s'.ovr = false ∧ s.busy = false ∧ IsInit i)) ∧
  (∀ i s, s.busy = true → IsCtrlWrite i → ∃ s', exec i s = .next s' ∧ s'.ovr = true) ∧
  (∀ i s, s.busy = false → IsInit i → ∃ s', exec i s = .next s' ∧ s'.ovr = false) ∧
  (∀ s s', step s = .next s' → s.resetLine = false → mover s = .engine → s'.ovr = s.ovr) ∧
  (∀ s, mover s = .assertReset → ∃ s', step s = .next s' ∧ s'.ovr = false)

/-- 60_exceptions R225, 10_state R32: RESULT is written by every CTRL write that is taken while not busy, and by nothing else but reset (log 1). -/
def Obligations.ResultIsWrittenOnlyByDecodedCommands : Prop :=
  (∀ i s s', exec i s = .next s' → (s.busy = true ∨ ¬ IsCtrlWrite i) → s'.result = s.result) ∧
  (∀ i s r, s.busy = false → IsCtrlWrite i → ∃ s' s'', exec i s = .next s' ∧ exec i { s with result := r } = .next s'' ∧
    s''.result = s'.result) ∧
  (∀ s s', step s = .next s' → s.resetLine = false → mover s = .engine → s'.result = s.result)

/-- 44_commands R171, R189; 10_state R37: while a job is in flight nothing the host does changes it, H, LEN, STATE, BUSY or RESULT (log 1). -/
def Obligations.HostCannotDisturbAJobInFlight : Prop :=
  ∀ s s', s.busy = true → s.resetLine = false → mover s = .host → step s = .next s' →
    s'.job = s.job ∧ s'.h = s.h ∧ s'.len = s.len ∧ s'.lifeState = s.lifeState ∧ s'.busy = s.busy ∧ s'.result = s.result

/-- 44_commands R184, 60_exceptions R223: a step leads out of FAILED only by INIT, when not busy, or by reset (log 1). -/
def Obligations.OnlyInitAndResetLeaveFailed : Prop :=
  ∀ s s', s.Inv → step s = .next s' → s.lifeState = .failed → s'.lifeState ≠ .failed →
    s'.lifeState = .created ∧ s'.len = 0 ∧ s'.h = iv ∧
      (mover s = .assertReset ∨
        (mover s = .host ∧ ∃ acc rest, s.pending = .access acc :: rest ∧ decode s.base acc = .ok .init))

/-! ### The engine -/

/-- 44_commands R187: the completion step (log 1). -/
def Obligations.CompletionStepCompressesTheLatchedBlocks : Prop :=
  ∀ s jb, s.job = some jb → s.resetLine = false → mover s = .engine →
    ∃ s', step s = .next s' ∧ s'.h = jb.blocks.foldl pureCompress s.h ∧ s'.len = jb.newLen ∧
      s'.lifeState = jb.newState ∧ s'.job = none ∧ s'.busy = false ∧
      s'.result = s.result ∧ s'.ovr = s.ovr ∧ s'.data = s.data ∧ s'.resp = s.resp ∧ s'.base = s.base ∧
      s'.pending = s.pending ∧ s'.turns = s.turns.tail ∧ s'.resetLine = false

/-- 44_commands R177: COMPRESS, once it has completed. -/
def Obligations.CompletedCompressHasCompressedTheBlock : Prop :=
  ∀ s : State, s.busy = false → InputAllowed s →
    ∃ s' s'', exec .compress s = .next s' ∧ engineTurn s' = .next s'' ∧
      s''.h = pureCompress s.h s.data ∧ s''.len.toNat = min (s.len.toNat + 64) (2 ^ 61) ∧
      s''.lifeState = .absorbing ∧ s''.busy = false ∧ s''.job = none ∧ s''.data = s.data ∧ s''.ovr = s.ovr ∧
      s''.result = .ok

/-- 44_commands R185: FINALIZE n, once it has completed. -/
def Obligations.CompletedFinalizeHasHashedThePaddedTail : Prop :=
  ∀ (s : State) (n : BitVec 7), s.busy = false → InputAllowed s → n.toNat ≤ 63 → s.len.toNat + n.toNat < 2 ^ 61 →
    ∃ s' s'' blocks, pad (tailBytes s.data n.toNat) (s.len.toNat + n.toNat) = some blocks ∧
      exec (.finalize n) s = .next s' ∧ engineTurn s' = .next s'' ∧
      ((∃ b0, blocks = [b0] ∧ n.toNat ≤ 55 ∧ s''.h = pureCompress s.h b0) ∨
        (∃ b0 b1, blocks = [b0, b1] ∧ 56 ≤ n.toNat ∧ s''.h = pureCompress (pureCompress s.h b0) b1)) ∧
      s''.len.toNat = s.len.toNat + n.toNat ∧ s''.lifeState = .finalized ∧ s''.busy = false ∧ s''.job = none ∧
      s''.dvalid = true ∧
      s''.data = s.data ∧ s''.ovr = s.ovr ∧ s''.result = .ok

/-- 42_round_pipeline R134: the datapath of registers and rounds computes Compress, faults nowhere, and leaves t = 80. -/
def Obligations.RoundPipelineComputesCompress : Prop :=
  ∀ k blk s, ∃ s', compressBlock k blk s = .ok s' ∧ s'.h = pureCompress s.h blk ∧ s'.w = pureSchedule blk ∧
    s'.t = 80 ∧ s' = { s with h := s'.h, w := s'.w, a := s'.a, b := s'.b, c := s'.c, d := s'.d, e := s'.e,
                              t := s'.t, j := s'.j }

/-- 42_round_pipeline R131, R132: one round, for t in 0..79; the five writes are simultaneous. -/
def Obligations.RoundShiftsTheWorkingVariables : Prop :=
  ∀ (s : State) (h : s.t.toNat < 80), ∃ f k, roundFun s.b s.c s.d s.t.toNat = .ok f ∧ roundConst s.t.toNat = .ok k ∧
    roundStep s = .ok { s with
      a := BitVec.ofNat 32 ((s.a.rotateLeft 5).toNat + f.toNat + s.e.toNat + k.toNat + (s.w[s.t.toNat]).toNat)
      b := s.a
      c := s.b.rotateLeft 30
      d := s.c
      e := s.d
      t := s.t + 1 }

/-- 40_word_functions R110, 60_exceptions R229: a step outside 0..79 is a fault, never a value. -/
def Obligations.StepOutsideTheRangeIsAFault : Prop :=
  (∀ t, 80 ≤ t → roundConst t = .error (.stepOutOfRange t) ∧
    ∀ x y z, roundFun x y z t = .error (.stepOutOfRange t)) ∧
  (∀ s : State, 80 ≤ s.t.toNat → roundStep s = .error (.stepOutOfRange s.t.toNat)) ∧
  (∀ v n, n ≠ 1 → n ≠ 5 → n ≠ 30 → rotl32 v n = .error (.unreachableRotate n))

/-- 40_word_functions R100: bit i of a rotation is bit `(i - n) mod 32` of the word. -/
def Obligations.RotationMovesEachBit : Prop :=
  ∀ (v : Word) (n : Nat), (n = 1 ∨ n = 5 ∨ n = 30) →
    ∃ r, rotl32 v n = .ok r ∧ ∀ i, i < 32 → r.getLsbD i = v.getLsbD ((i + 32 - n) % 32)

/-- 40_word_functions R102, R103, R104: the three functions, bit by bit. -/
def Obligations.ChooseParityMajorityBitByBit : Prop :=
  ∀ (x y z : Word) (i : Nat), i < 32 →
    (ch x y z).getLsbD i = (if x.getLsbD i then y.getLsbD i else z.getLsbD i) ∧
    (parity x y z).getLsbD i = (x.getLsbD i ^^ y.getLsbD i ^^ z.getLsbD i) ∧
    ((maj x y z).getLsbD i = true ↔
      2 ≤ (x.getLsbD i).toNat + (y.getLsbD i).toNat + (z.getLsbD i).toNat)

/-- 40_word_functions R106, R107: K and f by the ranges of t. -/
def Obligations.RoundConstantAndFunctionByClass : Prop :=
  ∀ (t : Nat) (x y z : Word),
    (t ≤ 19 → roundConst t = .ok 0x5A827999 ∧ roundFun x y z t = .ok (ch x y z)) ∧
    (20 ≤ t → t ≤ 39 → roundConst t = .ok 0x6ED9EBA1 ∧ roundFun x y z t = .ok (parity x y z)) ∧
    (40 ≤ t → t ≤ 59 → roundConst t = .ok 0x8F1BBCDC ∧ roundFun x y z t = .ok (maj x y z)) ∧
    (60 ≤ t → t ≤ 79 → roundConst t = .ok 0xCA62C1D6 ∧ roundFun x y z t = .ok (parity x y z))

/-- 41_schedule_expander R121, R123: the schedule of a block. -/
def Obligations.ScheduleFollowsTheRecurrence : Prop :=
  ∀ blk : Block, ∃ w, expand blk = .ok w ∧ (∀ i (_ : i < 16), w[i] = blk[i]) ∧
    ∀ t (_ : 16 ≤ t ∧ t < 80), w[t] = (w[t - 3] ^^^ w[t - 8] ^^^ w[t - 14] ^^^ w[t - 16]).rotateLeft 1

/-- 41_schedule_expander R124: the 16-word window gives each round the word that the engine's expander gives it. -/
def Obligations.SixteenWordWindowGivesTheSameSchedule : Prop :=
  ∀ blk : Block, ∃ w, expand blk = .ok w ∧ ∀ n (_ : n < 64), windowWord blk n = w[16 + n]

/-- 41_schedule_expander R125: the expander is linear over XOR. -/
def Obligations.ExpanderIsLinearOverXor : Prop :=
  ∀ blk blk' : Block, ∃ w w' w'', expand blk = .ok w ∧ expand blk' = .ok w' ∧
    expand (Vector.zipWith (· ^^^ ·) blk blk') = .ok w'' ∧ ∀ t (_ : t < 80), w''[t] = w[t] ^^^ w'[t]

/-! ### The padder -/

/-- 43_padder R151, R154: the zero fill is the least that leaves the length field, and one block or two result. -/
def Obligations.PaddingFillsOneOrTwoBlocks : Prop :=
  ∀ (tail : List Byte) (len : Nat), tail.length ≤ 63 →
    (tail.length + 1 + padZeros tail.length) % 64 = 56 ∧
    (∀ z, (tail.length + 1 + z) % 64 = 56 → padZeros tail.length ≤ z) ∧
    (len < 2 ^ 61 → ∃ blocks, pad tail len = some blocks ∧ blocks.length = (if tail.length ≤ 55 then 1 else 2)) ∧
    (2 ^ 61 ≤ len → pad tail len = none)

/-- 43_padder R152, R153: each byte of the padded blocks: tail, marker, zeros, and the big-endian bit length. -/
def Obligations.PaddedBlocksHoldTailMarkerAndLength : Prop :=
  ∀ (tail : List Byte) (len : Nat) (blocks : List Block) (p : Nat), tail.length ≤ 63 → pad tail len = some blocks →
    p < 64 * blocks.length →
    (∀ b, tail[p]? = some b → byteOf blocks p = b.toNat) ∧
    (p = tail.length → byteOf blocks p = 0x80) ∧
    (tail.length < p → p < 64 * blocks.length - 8 → byteOf blocks p = 0) ∧
    (64 * blocks.length - 8 ≤ p → byteOf blocks p = (8 * len) / 256 ^ (64 * blocks.length - 1 - p) % 256)

/-- 43_padder R150: FINALIZE n does not depend on the bytes of DATA at positions n to 63. -/
def Obligations.FinalizeIgnoresBytesBeyondTheTail : Prop :=
  ∀ (s s₁ s₂ : State) (n : BitVec 7) (d₁ d₂ : Block),
    (∀ p : Fin 64, p.val < n.toNat → dataByte d₁ p = dataByte d₂ p) →
    exec (.finalize n) { s with data := d₁ } = .next s₁ → exec (.finalize n) { s with data := d₂ } = .next s₂ →
    s₂ = { s₁ with data := d₂ }

/-- 10_state R25: message byte 4i + k is `DATA[i][31 - 8k : 24 - 8k]`. -/
def Obligations.DataPacksMessageBytesBigEndian : Prop :=
  ∀ (data : Block) (i : Fin 16) (k : Fin 4),
    (dataByte data ⟨4 * i.val + k.val, by omega⟩).toNat = data[i].toNat / 2 ^ (24 - 8 * k.val) % 256

/-- 43_padder R156: a fresh engine is given the whole blocks of a message by COMPRESS, and its tail, with any
bytes of DATA beyond it, by FINALIZE. Every command is accepted, the blocks the jobs latch are in order the blocks of the source's
padded message, whose length is the smallest multiple of 64 that is at least L + 9, and H ends as those blocks
compressed from the IV. -/
def Obligations.CompressedBlocksAreThePaddedMessage : Prop :=
  ∀ (m : List Byte) (s : State) (n : BitVec 7) (data : Block), m.length < 2 ^ 61 →
    s.busy = false → s.lifeState = .created → s.h = iv → s.len = 0 → n.toNat = m.length % 64 →
    (∀ p : Fin 64, p.val < n.toNat → m[64 * (m.length / 64) + p.val]? = some (dataByte data p)) →
    (∃ s₁ s₂ s₃ tail, AbsorbsAll (blocksOfBytes (m.length / 64) m) s s₁ ∧
      exec (.finalize n) { s₁ with data := data } = .next s₂ ∧ s₂.job.map Job.blocks = some tail ∧
      engineTurn s₂ = .next s₃ ∧
      blocksOfBytes (m.length / 64) m ++ tail = blocksOfBytes ((paddedMessage m).length / 64) (paddedMessage m) ∧
      s₃.h = (blocksOfBytes ((paddedMessage m).length / 64) (paddedMessage m)).foldl pureCompress iv ∧
      s₃.len.toNat = m.length ∧ s₃.lifeState = .finalized ∧ s₃.busy = false ∧ s₃.result = .ok) ∧
    messageBlocks m = some (blocksOfBytes ((paddedMessage m).length / 64) (paddedMessage m)) ∧
    (paddedMessage m).length % 64 = 0 ∧ m.length + 9 ≤ (paddedMessage m).length ∧
    (paddedMessage m).length < m.length + 9 + 64

/-! ### Invariants and progress -/

/-- The invariant holds right after reset. -/
def Obligations.ResetStateMeetsTheInvariant : Prop := State.reset.Inv

/-- 10_state R24, R26, R37, 44_commands R181, 43_padder R155: every step keeps the invariant. -/
def Obligations.EveryStepKeepsTheInvariant : Prop :=
  ∀ s s', s.Inv → step s = .next s' → s'.Inv

/-- 60_exceptions R221, R229: no step of any state faults or is refused. -/
def Obligations.EveryStepGoesOn : Prop := ∀ s : State, s.StepsOn

/-- 44_commands R188, R187; 70_reset_and_hazards R251: within one step more than the turns that are lined up, an accepted job
has completed, with its effect on H, LEN and STATE, or an assertion of reset that was lined up has come
first (log 1, log 11). -/
def Obligations.AcceptedJobCompletes : Prop :=
  ∀ (s : State) (jb : Job), s.Inv → s.job = some jb →
    ∃ k s', k ≤ s.turns.length + 1 ∧ Host.Core.run core k s = .next s' ∧ s'.job = none ∧ s'.busy = false ∧
      ((s'.h = jb.blocks.foldl pureCompress s.h ∧ s'.len = jb.newLen ∧ s'.lifeState = jb.newState) ∨
        (.assertReset ∈ s.turns ∧ s'.AtReset))

/-- 44_commands R189: the effect of a job depends only on H and the latched job. -/
def Obligations.JobResultDependsOnlyOnHashAndBlocks : Prop :=
  ∀ s₁ s₂ s₁' s₂', s₁.h = s₂.h → s₁.job = s₂.job → engineTurn s₁ = .next s₁' → engineTurn s₂ = .next s₂' →
    s₁'.h = s₂'.h ∧ (s₁.job ≠ none → s₁'.len = s₂'.len ∧ s₁'.lifeState = s₂'.lifeState)

/-- 95_test_vectors P7, 44_commands R187: both orders of a second command and the completion step are allowed: it is dropped
with OVR, or it is accepted as the next job (log 1). -/
def Obligations.BothInterleavingsOfASecondCommandAreAllowed : Prop :=
  ∀ (s : State) (jb : Job) (rest : List HostOp) (ts : List Turn), s.Inv → s.job = some jb → jb.newState = .absorbing → s.resetLine = false →
    s.pending = asm s.base .compress :: rest →
    (∃ s', Host.Core.run core 2 { s with turns := .host :: .engine :: ts } = .next s' ∧ s'.ovr = true ∧
      s'.job = none ∧ s'.h = jb.blocks.foldl pureCompress s.h ∧ s'.pending = rest) ∧
    (∃ s', Host.Core.run core 2 { s with turns := .engine :: .host :: ts } = .next s' ∧ s'.ovr = s.ovr ∧
      s'.job.map Job.blocks = some [s.data] ∧ s'.h = jb.blocks.foldl pureCompress s.h ∧ s'.pending = rest)

/-- 60_exceptions R236, 20_memory R61: an access reaches at most one instance, and a step of one leaves the others alone (log 16). -/
def Obligations.InstancesShareNothing : Prop :=
  (∀ (p : Platform) (acc : Access) (k m : Nat), p.Disjoint → k ≠ m →
    (p.send acc).instances[k]? = p.instances[k]? ∨ (p.send acc).instances[m]? = p.instances[m]?) ∧
  (∀ (p p' : Platform) (k m : Nat), p.stepAt k = .next p' → k ≠ m → p'.instances[m]? = p.instances[m]?)
end

