-- ==== Sys2Proof/Laws/Bytes.lean ====
section
/-! SUPPORT. The byte and word operand forms as numbers, and the lengths of byte sequences. -/

namespace Sys2Proof.Machine

theorem shift_or_of_lt {a b : Nat} (i : Nat) (h : b < 2 ^ i) : a <<< i ||| b = a * 2 ^ i + b := by
  rw [← Nat.shiftLeft_add_eq_or_of_lt h, Nat.shiftLeft_eq]

/-- BE32 as a number (00_scope R11). -/
theorem be32_toNat (b0 b1 b2 b3 : Byte) :
    (be32 b0 b1 b2 b3).toNat = b0.toNat * 2 ^ 24 + b1.toNat * 2 ^ 16 + b2.toNat * 2 ^ 8 + b3.toNat := by
  have h0 := b0.isLt
  have h1 := b1.isLt
  have h2 := b2.isLt
  have h3 := b3.isLt
  have e : (be32 b0 b1 b2 b3).toNat =
      b0.toNat <<< 24 ||| (b1.toNat <<< 16 ||| (b2.toNat <<< 8 ||| b3.toNat)) := by
    simp only [be32, BitVec.toNat_or, BitVec.toNat_shiftLeft, BitVec.toNat_setWidth, Nat.shiftLeft_eq, Nat.or_assoc]
    congr 1
    · omega
    · congr 1
      · omega
      · congr 1 <;> omega
  rw [e, shift_or_of_lt 8 h3, shift_or_of_lt 16 (by omega), shift_or_of_lt 24 (by omega)]
  omega

theorem be64_length (n : BitVec 64) : (be64 n).length = 8 := rfl

theorem tailBytes_length (data : Block) {n : Nat} (h : n ≤ 64) : (tailBytes data n).length = n := by
  simp [tailBytes, h]

/-- The padded tail fills one block or two (43_padder R153). -/
theorem paddedTail_length {tail : List Byte} (len : Nat) (h : tail.length ≤ 63) :
    (paddedTail tail len).length = if tail.length ≤ 55 then 64 else 128 := by
  simp only [paddedTail, List.length_append, List.length_replicate, be64_length, padZeros, List.length_singleton]
  split <;> omega

/-- The character of a nibble lies in '0' to '9' or 'a' to 'f' (45_digest_serializer R210). -/
theorem hexChar_toNat (v : BitVec 4) :
    (hexChar v).toNat = if v.toNat ≤ 9 then 0x30 + v.toNat else 0x61 + (v.toNat - 10) := by
  have := v.isLt
  unfold hexChar
  split <;> simp only [BitVec.toNat_ofNat] <;> omega

end Sys2Proof.Machine
end

