-- ==== Sys2Proof/Laws/State.lean ====
section
/-! SUPPORT. What each named update does to each field of State, one lemma a field, true by rfl. (What the reset input
leaves in W, a to e, t and j is unspecified: no lemma says it.) -/

namespace Sys2Proof.Machine

variable (s : State)

@[simp] theorem State.respond_h (r : Response) : (s.respond r).h = s.h := rfl
@[simp] theorem State.respond_len (r : Response) : (s.respond r).len = s.len := rfl
@[simp] theorem State.respond_data (r : Response) : (s.respond r).data = s.data := rfl
@[simp] theorem State.respond_lifeState (r : Response) : (s.respond r).lifeState = s.lifeState := rfl
@[simp] theorem State.respond_busy (r : Response) : (s.respond r).busy = s.busy := rfl
@[simp] theorem State.respond_ovr (r : Response) : (s.respond r).ovr = s.ovr := rfl
@[simp] theorem State.respond_result (r : Response) : (s.respond r).result = s.result := rfl
@[simp] theorem State.respond_job (r : Response) : (s.respond r).job = s.job := rfl
@[simp] theorem State.respond_w (r : Response) : (s.respond r).w = s.w := rfl
@[simp] theorem State.respond_a (r : Response) : (s.respond r).a = s.a := rfl
@[simp] theorem State.respond_b (r : Response) : (s.respond r).b = s.b := rfl
@[simp] theorem State.respond_c (r : Response) : (s.respond r).c = s.c := rfl
@[simp] theorem State.respond_d (r : Response) : (s.respond r).d = s.d := rfl
@[simp] theorem State.respond_e (r : Response) : (s.respond r).e = s.e := rfl
@[simp] theorem State.respond_t (r : Response) : (s.respond r).t = s.t := rfl
@[simp] theorem State.respond_j (r : Response) : (s.respond r).j = s.j := rfl
@[simp] theorem State.respond_resetLine (r : Response) : (s.respond r).resetLine = s.resetLine := rfl
@[simp] theorem State.respond_base (r : Response) : (s.respond r).base = s.base := rfl
@[simp] theorem State.respond_pending (r : Response) : (s.respond r).pending = s.pending := rfl
@[simp] theorem State.respond_turns (r : Response) : (s.respond r).turns = s.turns := rfl
@[simp] theorem State.respond_resp (r : Response) : (s.respond r).resp = some r := rfl
@[simp] theorem State.respond_draws (r : Response) : (s.respond r).draws = s.draws := rfl

@[simp] theorem State.raiseReject_h (code : ResultCode) : (s.raiseReject code).h = s.h := rfl
@[simp] theorem State.raiseReject_len (code : ResultCode) : (s.raiseReject code).len = s.len := rfl
@[simp] theorem State.raiseReject_data (code : ResultCode) : (s.raiseReject code).data = s.data := rfl
@[simp] theorem State.raiseReject_lifeState (code : ResultCode) : (s.raiseReject code).lifeState = s.lifeState := rfl
@[simp] theorem State.raiseReject_busy (code : ResultCode) : (s.raiseReject code).busy = s.busy := rfl
@[simp] theorem State.raiseReject_ovr (code : ResultCode) : (s.raiseReject code).ovr = s.ovr := rfl
@[simp] theorem State.raiseReject_result (code : ResultCode) : (s.raiseReject code).result = code := rfl
@[simp] theorem State.raiseReject_job (code : ResultCode) : (s.raiseReject code).job = s.job := rfl
@[simp] theorem State.raiseReject_w (code : ResultCode) : (s.raiseReject code).w = s.w := rfl
@[simp] theorem State.raiseReject_a (code : ResultCode) : (s.raiseReject code).a = s.a := rfl
@[simp] theorem State.raiseReject_b (code : ResultCode) : (s.raiseReject code).b = s.b := rfl
@[simp] theorem State.raiseReject_c (code : ResultCode) : (s.raiseReject code).c = s.c := rfl
@[simp] theorem State.raiseReject_d (code : ResultCode) : (s.raiseReject code).d = s.d := rfl
@[simp] theorem State.raiseReject_e (code : ResultCode) : (s.raiseReject code).e = s.e := rfl
@[simp] theorem State.raiseReject_t (code : ResultCode) : (s.raiseReject code).t = s.t := rfl
@[simp] theorem State.raiseReject_j (code : ResultCode) : (s.raiseReject code).j = s.j := rfl
@[simp] theorem State.raiseReject_resetLine (code : ResultCode) : (s.raiseReject code).resetLine = s.resetLine := rfl
@[simp] theorem State.raiseReject_base (code : ResultCode) : (s.raiseReject code).base = s.base := rfl
@[simp] theorem State.raiseReject_pending (code : ResultCode) : (s.raiseReject code).pending = s.pending := rfl
@[simp] theorem State.raiseReject_turns (code : ResultCode) : (s.raiseReject code).turns = s.turns := rfl
@[simp] theorem State.raiseReject_resp (code : ResultCode) : (s.raiseReject code).resp = s.resp := rfl
@[simp] theorem State.raiseReject_draws (code : ResultCode) : (s.raiseReject code).draws = s.draws := rfl

@[simp] theorem State.raiseOversize_h : (s.raiseOversize).h = s.h := rfl
@[simp] theorem State.raiseOversize_len : (s.raiseOversize).len = s.len := rfl
@[simp] theorem State.raiseOversize_data : (s.raiseOversize).data = s.data := rfl
@[simp] theorem State.raiseOversize_lifeState : (s.raiseOversize).lifeState = .failed := rfl
@[simp] theorem State.raiseOversize_busy : (s.raiseOversize).busy = s.busy := rfl
@[simp] theorem State.raiseOversize_ovr : (s.raiseOversize).ovr = s.ovr := rfl
@[simp] theorem State.raiseOversize_result : (s.raiseOversize).result = .oversize := rfl
@[simp] theorem State.raiseOversize_job : (s.raiseOversize).job = s.job := rfl
@[simp] theorem State.raiseOversize_w : (s.raiseOversize).w = s.w := rfl
@[simp] theorem State.raiseOversize_a : (s.raiseOversize).a = s.a := rfl
@[simp] theorem State.raiseOversize_b : (s.raiseOversize).b = s.b := rfl
@[simp] theorem State.raiseOversize_c : (s.raiseOversize).c = s.c := rfl
@[simp] theorem State.raiseOversize_d : (s.raiseOversize).d = s.d := rfl
@[simp] theorem State.raiseOversize_e : (s.raiseOversize).e = s.e := rfl
@[simp] theorem State.raiseOversize_t : (s.raiseOversize).t = s.t := rfl
@[simp] theorem State.raiseOversize_j : (s.raiseOversize).j = s.j := rfl
@[simp] theorem State.raiseOversize_resetLine : (s.raiseOversize).resetLine = s.resetLine := rfl
@[simp] theorem State.raiseOversize_base : (s.raiseOversize).base = s.base := rfl
@[simp] theorem State.raiseOversize_pending : (s.raiseOversize).pending = s.pending := rfl
@[simp] theorem State.raiseOversize_turns : (s.raiseOversize).turns = s.turns := rfl
@[simp] theorem State.raiseOversize_resp : (s.raiseOversize).resp = s.resp := rfl
@[simp] theorem State.raiseOversize_draws : (s.raiseOversize).draws = s.draws := rfl

@[simp] theorem State.dropCommand_h : (s.dropCommand).h = s.h := rfl
@[simp] theorem State.dropCommand_len : (s.dropCommand).len = s.len := rfl
@[simp] theorem State.dropCommand_data : (s.dropCommand).data = s.data := rfl
@[simp] theorem State.dropCommand_lifeState : (s.dropCommand).lifeState = s.lifeState := rfl
@[simp] theorem State.dropCommand_busy : (s.dropCommand).busy = s.busy := rfl
@[simp] theorem State.dropCommand_ovr : (s.dropCommand).ovr = true := rfl
@[simp] theorem State.dropCommand_result : (s.dropCommand).result = s.result := rfl
@[simp] theorem State.dropCommand_job : (s.dropCommand).job = s.job := rfl
@[simp] theorem State.dropCommand_w : (s.dropCommand).w = s.w := rfl
@[simp] theorem State.dropCommand_a : (s.dropCommand).a = s.a := rfl
@[simp] theorem State.dropCommand_b : (s.dropCommand).b = s.b := rfl
@[simp] theorem State.dropCommand_c : (s.dropCommand).c = s.c := rfl
@[simp] theorem State.dropCommand_d : (s.dropCommand).d = s.d := rfl
@[simp] theorem State.dropCommand_e : (s.dropCommand).e = s.e := rfl
@[simp] theorem State.dropCommand_t : (s.dropCommand).t = s.t := rfl
@[simp] theorem State.dropCommand_j : (s.dropCommand).j = s.j := rfl
@[simp] theorem State.dropCommand_resetLine : (s.dropCommand).resetLine = s.resetLine := rfl
@[simp] theorem State.dropCommand_base : (s.dropCommand).base = s.base := rfl
@[simp] theorem State.dropCommand_pending : (s.dropCommand).pending = s.pending := rfl
@[simp] theorem State.dropCommand_turns : (s.dropCommand).turns = s.turns := rfl
@[simp] theorem State.dropCommand_resp : (s.dropCommand).resp = s.resp := rfl
@[simp] theorem State.dropCommand_draws : (s.dropCommand).draws = s.draws := rfl

@[simp] theorem State.raiseBusError_h (dir : Dir) : (s.raiseBusError dir).h = s.h := rfl
@[simp] theorem State.raiseBusError_len (dir : Dir) : (s.raiseBusError dir).len = s.len := rfl
@[simp] theorem State.raiseBusError_data (dir : Dir) : (s.raiseBusError dir).data = s.data := rfl
@[simp] theorem State.raiseBusError_lifeState (dir : Dir) : (s.raiseBusError dir).lifeState = s.lifeState := rfl
@[simp] theorem State.raiseBusError_busy (dir : Dir) : (s.raiseBusError dir).busy = s.busy := rfl
@[simp] theorem State.raiseBusError_ovr (dir : Dir) : (s.raiseBusError dir).ovr = s.ovr := rfl
@[simp] theorem State.raiseBusError_result (dir : Dir) : (s.raiseBusError dir).result = s.result := rfl
@[simp] theorem State.raiseBusError_job (dir : Dir) : (s.raiseBusError dir).job = s.job := rfl
@[simp] theorem State.raiseBusError_w (dir : Dir) : (s.raiseBusError dir).w = s.w := rfl
@[simp] theorem State.raiseBusError_a (dir : Dir) : (s.raiseBusError dir).a = s.a := rfl
@[simp] theorem State.raiseBusError_b (dir : Dir) : (s.raiseBusError dir).b = s.b := rfl
@[simp] theorem State.raiseBusError_c (dir : Dir) : (s.raiseBusError dir).c = s.c := rfl
@[simp] theorem State.raiseBusError_d (dir : Dir) : (s.raiseBusError dir).d = s.d := rfl
@[simp] theorem State.raiseBusError_e (dir : Dir) : (s.raiseBusError dir).e = s.e := rfl
@[simp] theorem State.raiseBusError_t (dir : Dir) : (s.raiseBusError dir).t = s.t := rfl
@[simp] theorem State.raiseBusError_j (dir : Dir) : (s.raiseBusError dir).j = s.j := rfl
@[simp] theorem State.raiseBusError_resetLine (dir : Dir) : (s.raiseBusError dir).resetLine = s.resetLine := rfl
@[simp] theorem State.raiseBusError_base (dir : Dir) : (s.raiseBusError dir).base = s.base := rfl
@[simp] theorem State.raiseBusError_pending (dir : Dir) : (s.raiseBusError dir).pending = s.pending := rfl
@[simp] theorem State.raiseBusError_turns (dir : Dir) : (s.raiseBusError dir).turns = s.turns := rfl
@[simp] theorem State.raiseBusError_resp (dir : Dir) : (s.raiseBusError dir).resp = some (match dir with | .read => .readError 0 | .write => .writeError) := rfl
@[simp] theorem State.raiseBusError_draws (dir : Dir) : (s.raiseBusError dir).draws = s.draws := rfl

@[simp] theorem State.writeData_h (i : Fin 16) (v : Word) : (s.writeData i v).h = s.h := rfl
@[simp] theorem State.writeData_len (i : Fin 16) (v : Word) : (s.writeData i v).len = s.len := rfl
@[simp] theorem State.writeData_data (i : Fin 16) (v : Word) : (s.writeData i v).data = s.data.set i v := rfl
@[simp] theorem State.writeData_lifeState (i : Fin 16) (v : Word) : (s.writeData i v).lifeState = s.lifeState := rfl
@[simp] theorem State.writeData_busy (i : Fin 16) (v : Word) : (s.writeData i v).busy = s.busy := rfl
@[simp] theorem State.writeData_ovr (i : Fin 16) (v : Word) : (s.writeData i v).ovr = s.ovr := rfl
@[simp] theorem State.writeData_result (i : Fin 16) (v : Word) : (s.writeData i v).result = s.result := rfl
@[simp] theorem State.writeData_job (i : Fin 16) (v : Word) : (s.writeData i v).job = s.job := rfl
@[simp] theorem State.writeData_w (i : Fin 16) (v : Word) : (s.writeData i v).w = s.w := rfl
@[simp] theorem State.writeData_a (i : Fin 16) (v : Word) : (s.writeData i v).a = s.a := rfl
@[simp] theorem State.writeData_b (i : Fin 16) (v : Word) : (s.writeData i v).b = s.b := rfl
@[simp] theorem State.writeData_c (i : Fin 16) (v : Word) : (s.writeData i v).c = s.c := rfl
@[simp] theorem State.writeData_d (i : Fin 16) (v : Word) : (s.writeData i v).d = s.d := rfl
@[simp] theorem State.writeData_e (i : Fin 16) (v : Word) : (s.writeData i v).e = s.e := rfl
@[simp] theorem State.writeData_t (i : Fin 16) (v : Word) : (s.writeData i v).t = s.t := rfl
@[simp] theorem State.writeData_j (i : Fin 16) (v : Word) : (s.writeData i v).j = s.j := rfl
@[simp] theorem State.writeData_resetLine (i : Fin 16) (v : Word) : (s.writeData i v).resetLine = s.resetLine := rfl
@[simp] theorem State.writeData_base (i : Fin 16) (v : Word) : (s.writeData i v).base = s.base := rfl
@[simp] theorem State.writeData_pending (i : Fin 16) (v : Word) : (s.writeData i v).pending = s.pending := rfl
@[simp] theorem State.writeData_turns (i : Fin 16) (v : Word) : (s.writeData i v).turns = s.turns := rfl
@[simp] theorem State.writeData_resp (i : Fin 16) (v : Word) : (s.writeData i v).resp = s.resp := rfl
@[simp] theorem State.writeData_draws (i : Fin 16) (v : Word) : (s.writeData i v).draws = s.draws := rfl

@[simp] theorem State.freshHash_h : (s.freshHash).h = iv := rfl
@[simp] theorem State.freshHash_len : (s.freshHash).len = 0 := rfl
@[simp] theorem State.freshHash_data : (s.freshHash).data = s.data := rfl
@[simp] theorem State.freshHash_lifeState : (s.freshHash).lifeState = .created := rfl
@[simp] theorem State.freshHash_busy : (s.freshHash).busy = s.busy := rfl
@[simp] theorem State.freshHash_ovr : (s.freshHash).ovr = false := rfl
@[simp] theorem State.freshHash_result : (s.freshHash).result = .ok := rfl
@[simp] theorem State.freshHash_job : (s.freshHash).job = s.job := rfl
@[simp] theorem State.freshHash_w : (s.freshHash).w = s.w := rfl
@[simp] theorem State.freshHash_a : (s.freshHash).a = s.a := rfl
@[simp] theorem State.freshHash_b : (s.freshHash).b = s.b := rfl
@[simp] theorem State.freshHash_c : (s.freshHash).c = s.c := rfl
@[simp] theorem State.freshHash_d : (s.freshHash).d = s.d := rfl
@[simp] theorem State.freshHash_e : (s.freshHash).e = s.e := rfl
@[simp] theorem State.freshHash_t : (s.freshHash).t = s.t := rfl
@[simp] theorem State.freshHash_j : (s.freshHash).j = s.j := rfl
@[simp] theorem State.freshHash_resetLine : (s.freshHash).resetLine = s.resetLine := rfl
@[simp] theorem State.freshHash_base : (s.freshHash).base = s.base := rfl
@[simp] theorem State.freshHash_pending : (s.freshHash).pending = s.pending := rfl
@[simp] theorem State.freshHash_turns : (s.freshHash).turns = s.turns := rfl
@[simp] theorem State.freshHash_resp : (s.freshHash).resp = s.resp := rfl
@[simp] theorem State.freshHash_draws : (s.freshHash).draws = s.draws := rfl

@[simp] theorem State.startJob_h (jb : Job) : (s.startJob jb).h = s.h := rfl
@[simp] theorem State.startJob_len (jb : Job) : (s.startJob jb).len = s.len := rfl
@[simp] theorem State.startJob_data (jb : Job) : (s.startJob jb).data = s.data := rfl
@[simp] theorem State.startJob_lifeState (jb : Job) : (s.startJob jb).lifeState = s.lifeState := rfl
@[simp] theorem State.startJob_busy (jb : Job) : (s.startJob jb).busy = true := rfl
@[simp] theorem State.startJob_ovr (jb : Job) : (s.startJob jb).ovr = s.ovr := rfl
@[simp] theorem State.startJob_result (jb : Job) : (s.startJob jb).result = .ok := rfl
@[simp] theorem State.startJob_job (jb : Job) : (s.startJob jb).job = some jb := rfl
@[simp] theorem State.startJob_w (jb : Job) : (s.startJob jb).w = s.w := rfl
@[simp] theorem State.startJob_a (jb : Job) : (s.startJob jb).a = s.a := rfl
@[simp] theorem State.startJob_b (jb : Job) : (s.startJob jb).b = s.b := rfl
@[simp] theorem State.startJob_c (jb : Job) : (s.startJob jb).c = s.c := rfl
@[simp] theorem State.startJob_d (jb : Job) : (s.startJob jb).d = s.d := rfl
@[simp] theorem State.startJob_e (jb : Job) : (s.startJob jb).e = s.e := rfl
@[simp] theorem State.startJob_t (jb : Job) : (s.startJob jb).t = s.t := rfl
@[simp] theorem State.startJob_j (jb : Job) : (s.startJob jb).j = s.j := rfl
@[simp] theorem State.startJob_resetLine (jb : Job) : (s.startJob jb).resetLine = s.resetLine := rfl
@[simp] theorem State.startJob_base (jb : Job) : (s.startJob jb).base = s.base := rfl
@[simp] theorem State.startJob_pending (jb : Job) : (s.startJob jb).pending = s.pending := rfl
@[simp] theorem State.startJob_turns (jb : Job) : (s.startJob jb).turns = s.turns := rfl
@[simp] theorem State.startJob_resp (jb : Job) : (s.startJob jb).resp = s.resp := rfl
@[simp] theorem State.startJob_draws (jb : Job) : (s.startJob jb).draws = s.draws := rfl

@[simp] theorem State.finishJob_h (jb : Job) : (s.finishJob jb).h = s.h := rfl
@[simp] theorem State.finishJob_len (jb : Job) : (s.finishJob jb).len = jb.newLen := rfl
@[simp] theorem State.finishJob_data (jb : Job) : (s.finishJob jb).data = s.data := rfl
@[simp] theorem State.finishJob_lifeState (jb : Job) : (s.finishJob jb).lifeState = jb.newState := rfl
@[simp] theorem State.finishJob_busy (jb : Job) : (s.finishJob jb).busy = false := rfl
@[simp] theorem State.finishJob_ovr (jb : Job) : (s.finishJob jb).ovr = s.ovr := rfl
@[simp] theorem State.finishJob_result (jb : Job) : (s.finishJob jb).result = s.result := rfl
@[simp] theorem State.finishJob_job (jb : Job) : (s.finishJob jb).job = none := rfl
@[simp] theorem State.finishJob_w (jb : Job) : (s.finishJob jb).w = s.w := rfl
@[simp] theorem State.finishJob_a (jb : Job) : (s.finishJob jb).a = s.a := rfl
@[simp] theorem State.finishJob_b (jb : Job) : (s.finishJob jb).b = s.b := rfl
@[simp] theorem State.finishJob_c (jb : Job) : (s.finishJob jb).c = s.c := rfl
@[simp] theorem State.finishJob_d (jb : Job) : (s.finishJob jb).d = s.d := rfl
@[simp] theorem State.finishJob_e (jb : Job) : (s.finishJob jb).e = s.e := rfl
@[simp] theorem State.finishJob_t (jb : Job) : (s.finishJob jb).t = s.t := rfl
@[simp] theorem State.finishJob_j (jb : Job) : (s.finishJob jb).j = s.j := rfl
@[simp] theorem State.finishJob_resetLine (jb : Job) : (s.finishJob jb).resetLine = s.resetLine := rfl
@[simp] theorem State.finishJob_base (jb : Job) : (s.finishJob jb).base = s.base := rfl
@[simp] theorem State.finishJob_pending (jb : Job) : (s.finishJob jb).pending = s.pending := rfl
@[simp] theorem State.finishJob_turns (jb : Job) : (s.finishJob jb).turns = s.turns := rfl
@[simp] theorem State.finishJob_resp (jb : Job) : (s.finishJob jb).resp = s.resp := rfl
@[simp] theorem State.finishJob_draws (jb : Job) : (s.finishJob jb).draws = s.draws := rfl

@[simp] theorem State.respondFree_h : (s.respondFree).h = s.h := rfl
@[simp] theorem State.respondFree_len : (s.respondFree).len = s.len := rfl
@[simp] theorem State.respondFree_data : (s.respondFree).data = s.data := rfl
@[simp] theorem State.respondFree_lifeState : (s.respondFree).lifeState = s.lifeState := rfl
@[simp] theorem State.respondFree_busy : (s.respondFree).busy = s.busy := rfl
@[simp] theorem State.respondFree_ovr : (s.respondFree).ovr = s.ovr := rfl
@[simp] theorem State.respondFree_result : (s.respondFree).result = s.result := rfl
@[simp] theorem State.respondFree_job : (s.respondFree).job = s.job := rfl
@[simp] theorem State.respondFree_w : (s.respondFree).w = s.w := rfl
@[simp] theorem State.respondFree_a : (s.respondFree).a = s.a := rfl
@[simp] theorem State.respondFree_b : (s.respondFree).b = s.b := rfl
@[simp] theorem State.respondFree_c : (s.respondFree).c = s.c := rfl
@[simp] theorem State.respondFree_d : (s.respondFree).d = s.d := rfl
@[simp] theorem State.respondFree_e : (s.respondFree).e = s.e := rfl
@[simp] theorem State.respondFree_t : (s.respondFree).t = s.t := rfl
@[simp] theorem State.respondFree_j : (s.respondFree).j = s.j := rfl
@[simp] theorem State.respondFree_resetLine : (s.respondFree).resetLine = s.resetLine := rfl
@[simp] theorem State.respondFree_base : (s.respondFree).base = s.base := rfl
@[simp] theorem State.respondFree_pending : (s.respondFree).pending = s.pending := rfl
@[simp] theorem State.respondFree_turns : (s.respondFree).turns = s.turns := rfl
@[simp] theorem State.respondFree_resp : (s.respondFree).resp = some (.readOk (Config.freeReadWord s.base s.draws)) := rfl
@[simp] theorem State.respondFree_draws : (s.respondFree).draws = s.draws + 1 := rfl

@[simp] theorem State.forgetPipeline_h : (s.forgetPipeline).h = s.h := rfl
@[simp] theorem State.forgetPipeline_len : (s.forgetPipeline).len = s.len := rfl
@[simp] theorem State.forgetPipeline_data : (s.forgetPipeline).data = s.data := rfl
@[simp] theorem State.forgetPipeline_lifeState : (s.forgetPipeline).lifeState = s.lifeState := rfl
@[simp] theorem State.forgetPipeline_busy : (s.forgetPipeline).busy = s.busy := rfl
@[simp] theorem State.forgetPipeline_ovr : (s.forgetPipeline).ovr = s.ovr := rfl
@[simp] theorem State.forgetPipeline_result : (s.forgetPipeline).result = s.result := rfl
@[simp] theorem State.forgetPipeline_job : (s.forgetPipeline).job = s.job := rfl
@[simp] theorem State.forgetPipeline_w : (s.forgetPipeline).w = Config.freeSchedule s.base s.draws := rfl
@[simp] theorem State.forgetPipeline_a : (s.forgetPipeline).a = (Config.freeWorking s.base s.draws)[0] := rfl
@[simp] theorem State.forgetPipeline_b : (s.forgetPipeline).b = (Config.freeWorking s.base s.draws)[1] := rfl
@[simp] theorem State.forgetPipeline_c : (s.forgetPipeline).c = (Config.freeWorking s.base s.draws)[2] := rfl
@[simp] theorem State.forgetPipeline_d : (s.forgetPipeline).d = (Config.freeWorking s.base s.draws)[3] := rfl
@[simp] theorem State.forgetPipeline_e : (s.forgetPipeline).e = (Config.freeWorking s.base s.draws)[4] := rfl
@[simp] theorem State.forgetPipeline_t : (s.forgetPipeline).t = Config.freeStep s.base s.draws := rfl
@[simp] theorem State.forgetPipeline_j : (s.forgetPipeline).j = Config.freeBlockIndex s.base s.draws := rfl
@[simp] theorem State.forgetPipeline_resetLine : (s.forgetPipeline).resetLine = s.resetLine := rfl
@[simp] theorem State.forgetPipeline_base : (s.forgetPipeline).base = s.base := rfl
@[simp] theorem State.forgetPipeline_pending : (s.forgetPipeline).pending = s.pending := rfl
@[simp] theorem State.forgetPipeline_turns : (s.forgetPipeline).turns = s.turns := rfl
@[simp] theorem State.forgetPipeline_resp : (s.forgetPipeline).resp = s.resp := rfl
@[simp] theorem State.forgetPipeline_draws : (s.forgetPipeline).draws = s.draws + 1 := rfl

@[simp] theorem State.applyReset_h : (s.applyReset).h = iv := rfl
@[simp] theorem State.applyReset_len : (s.applyReset).len = 0 := rfl
@[simp] theorem State.applyReset_data : (s.applyReset).data = Vector.replicate 16 0 := rfl
@[simp] theorem State.applyReset_lifeState : (s.applyReset).lifeState = .created := rfl
@[simp] theorem State.applyReset_busy : (s.applyReset).busy = false := rfl
@[simp] theorem State.applyReset_ovr : (s.applyReset).ovr = false := rfl
@[simp] theorem State.applyReset_result : (s.applyReset).result = .ok := rfl
@[simp] theorem State.applyReset_job : (s.applyReset).job = none := rfl
@[simp] theorem State.applyReset_resetLine : (s.applyReset).resetLine = s.resetLine := rfl
@[simp] theorem State.applyReset_base : (s.applyReset).base = s.base := rfl
@[simp] theorem State.applyReset_pending : (s.applyReset).pending = s.pending := rfl
@[simp] theorem State.applyReset_turns : (s.applyReset).turns = s.turns := rfl
@[simp] theorem State.applyReset_resp : (s.applyReset).resp = s.resp := rfl
@[simp] theorem State.applyReset_draws : (s.applyReset).draws = s.draws + 1 := rfl

@[simp] theorem State.loadBlock_h (k : Nat) (w : Schedule) : (s.loadBlock k w).h = s.h := rfl
@[simp] theorem State.loadBlock_len (k : Nat) (w : Schedule) : (s.loadBlock k w).len = s.len := rfl
@[simp] theorem State.loadBlock_data (k : Nat) (w : Schedule) : (s.loadBlock k w).data = s.data := rfl
@[simp] theorem State.loadBlock_lifeState (k : Nat) (w : Schedule) : (s.loadBlock k w).lifeState = s.lifeState := rfl
@[simp] theorem State.loadBlock_busy (k : Nat) (w : Schedule) : (s.loadBlock k w).busy = s.busy := rfl
@[simp] theorem State.loadBlock_ovr (k : Nat) (w : Schedule) : (s.loadBlock k w).ovr = s.ovr := rfl
@[simp] theorem State.loadBlock_result (k : Nat) (w : Schedule) : (s.loadBlock k w).result = s.result := rfl
@[simp] theorem State.loadBlock_job (k : Nat) (w : Schedule) : (s.loadBlock k w).job = s.job := rfl
@[simp] theorem State.loadBlock_w (k : Nat) (w : Schedule) : (s.loadBlock k w).w = w := rfl
@[simp] theorem State.loadBlock_a (k : Nat) (w : Schedule) : (s.loadBlock k w).a = s.h[0] := rfl
@[simp] theorem State.loadBlock_b (k : Nat) (w : Schedule) : (s.loadBlock k w).b = s.h[1] := rfl
@[simp] theorem State.loadBlock_c (k : Nat) (w : Schedule) : (s.loadBlock k w).c = s.h[2] := rfl
@[simp] theorem State.loadBlock_d (k : Nat) (w : Schedule) : (s.loadBlock k w).d = s.h[3] := rfl
@[simp] theorem State.loadBlock_e (k : Nat) (w : Schedule) : (s.loadBlock k w).e = s.h[4] := rfl
@[simp] theorem State.loadBlock_t (k : Nat) (w : Schedule) : (s.loadBlock k w).t = 0 := rfl
@[simp] theorem State.loadBlock_j (k : Nat) (w : Schedule) : (s.loadBlock k w).j = BitVec.ofNat 1 k := rfl
@[simp] theorem State.loadBlock_resetLine (k : Nat) (w : Schedule) : (s.loadBlock k w).resetLine = s.resetLine := rfl
@[simp] theorem State.loadBlock_base (k : Nat) (w : Schedule) : (s.loadBlock k w).base = s.base := rfl
@[simp] theorem State.loadBlock_pending (k : Nat) (w : Schedule) : (s.loadBlock k w).pending = s.pending := rfl
@[simp] theorem State.loadBlock_turns (k : Nat) (w : Schedule) : (s.loadBlock k w).turns = s.turns := rfl
@[simp] theorem State.loadBlock_resp (k : Nat) (w : Schedule) : (s.loadBlock k w).resp = s.resp := rfl
@[simp] theorem State.loadBlock_draws (k : Nat) (w : Schedule) : (s.loadBlock k w).draws = s.draws := rfl

@[simp] theorem State.mix_h : (s.mix).h = #v[s.h[0] + s.a, s.h[1] + s.b, s.h[2] + s.c, s.h[3] + s.d, s.h[4] + s.e] := rfl
@[simp] theorem State.mix_len : (s.mix).len = s.len := rfl
@[simp] theorem State.mix_data : (s.mix).data = s.data := rfl
@[simp] theorem State.mix_lifeState : (s.mix).lifeState = s.lifeState := rfl
@[simp] theorem State.mix_busy : (s.mix).busy = s.busy := rfl
@[simp] theorem State.mix_ovr : (s.mix).ovr = s.ovr := rfl
@[simp] theorem State.mix_result : (s.mix).result = s.result := rfl
@[simp] theorem State.mix_job : (s.mix).job = s.job := rfl
@[simp] theorem State.mix_w : (s.mix).w = s.w := rfl
@[simp] theorem State.mix_a : (s.mix).a = s.a := rfl
@[simp] theorem State.mix_b : (s.mix).b = s.b := rfl
@[simp] theorem State.mix_c : (s.mix).c = s.c := rfl
@[simp] theorem State.mix_d : (s.mix).d = s.d := rfl
@[simp] theorem State.mix_e : (s.mix).e = s.e := rfl
@[simp] theorem State.mix_t : (s.mix).t = s.t := rfl
@[simp] theorem State.mix_j : (s.mix).j = s.j := rfl
@[simp] theorem State.mix_resetLine : (s.mix).resetLine = s.resetLine := rfl
@[simp] theorem State.mix_base : (s.mix).base = s.base := rfl
@[simp] theorem State.mix_pending : (s.mix).pending = s.pending := rfl
@[simp] theorem State.mix_turns : (s.mix).turns = s.turns := rfl
@[simp] theorem State.mix_resp : (s.mix).resp = s.resp := rfl
@[simp] theorem State.mix_draws : (s.mix).draws = s.draws := rfl

@[simp] theorem State.placeAccess_h (acc : Access) : (s.placeAccess acc).h = s.h := rfl
@[simp] theorem State.placeAccess_len (acc : Access) : (s.placeAccess acc).len = s.len := rfl
@[simp] theorem State.placeAccess_data (acc : Access) : (s.placeAccess acc).data = s.data := rfl
@[simp] theorem State.placeAccess_lifeState (acc : Access) : (s.placeAccess acc).lifeState = s.lifeState := rfl
@[simp] theorem State.placeAccess_busy (acc : Access) : (s.placeAccess acc).busy = s.busy := rfl
@[simp] theorem State.placeAccess_ovr (acc : Access) : (s.placeAccess acc).ovr = s.ovr := rfl
@[simp] theorem State.placeAccess_result (acc : Access) : (s.placeAccess acc).result = s.result := rfl
@[simp] theorem State.placeAccess_job (acc : Access) : (s.placeAccess acc).job = s.job := rfl
@[simp] theorem State.placeAccess_w (acc : Access) : (s.placeAccess acc).w = s.w := rfl
@[simp] theorem State.placeAccess_a (acc : Access) : (s.placeAccess acc).a = s.a := rfl
@[simp] theorem State.placeAccess_b (acc : Access) : (s.placeAccess acc).b = s.b := rfl
@[simp] theorem State.placeAccess_c (acc : Access) : (s.placeAccess acc).c = s.c := rfl
@[simp] theorem State.placeAccess_d (acc : Access) : (s.placeAccess acc).d = s.d := rfl
@[simp] theorem State.placeAccess_e (acc : Access) : (s.placeAccess acc).e = s.e := rfl
@[simp] theorem State.placeAccess_t (acc : Access) : (s.placeAccess acc).t = s.t := rfl
@[simp] theorem State.placeAccess_j (acc : Access) : (s.placeAccess acc).j = s.j := rfl
@[simp] theorem State.placeAccess_resetLine (acc : Access) : (s.placeAccess acc).resetLine = false := rfl
@[simp] theorem State.placeAccess_base (acc : Access) : (s.placeAccess acc).base = s.base := rfl
@[simp] theorem State.placeAccess_pending (acc : Access) : (s.placeAccess acc).pending = .access acc :: s.pending := rfl
@[simp] theorem State.placeAccess_turns (acc : Access) : (s.placeAccess acc).turns = .host :: s.turns := rfl
@[simp] theorem State.placeAccess_resp (acc : Access) : (s.placeAccess acc).resp = s.resp := rfl
@[simp] theorem State.placeAccess_draws (acc : Access) : (s.placeAccess acc).draws = s.draws := rfl

end Sys2Proof.Machine
end

