-- ==== Sys2Proof/Laws/Datapath.lean ====
section
/-! SUPPORT. The datapath within its ranges: no fault, and what each stage gives and leaves alone. -/

namespace Sys2Proof.Machine

theorem rotl32_of_wired {v : Word} {n : Nat} (h : n = 1 ∨ n = 5 ∨ n = 30) : rotl32 v n = .ok (rotlBits v n) := by
  simp [rotl32, h]

theorem roundConst_of_lt {t : Nat} (h : t < 80) : roundConst t = .ok (classConst (stepClass ⟨t, h⟩)) := by
  simp [roundConst, h]

theorem roundFun_of_lt {x y z : Word} {t : Nat} (h : t < 80) :
    roundFun x y z t = .ok (classFun (stepClass ⟨t, h⟩) x y z) := by simp [roundFun, h]

/-! ### The expander -/

theorem scheduleWord_of_range {w : Schedule} {t : Nat} (h : 16 ≤ t ∧ t < 80) :
    scheduleWord w t = .ok (rotlBits (w[t - 3] ^^^ w[t - 8] ^^^ w[t - 14] ^^^ w[t - 16]) 1) := by
  simp [scheduleWord, h, rotl32]

theorem setIfInBounds_eq_set {w : Schedule} {t : Nat} {v : Word} (h : t < 80) :
    w.setIfInBounds t v = w.set t v := by
  ext i hi
  simp [Vector.getElem_setIfInBounds, Vector.getElem_set]

/-- The faulting expander gives the pure schedule. -/
theorem expandUpTo_eq_pureScheduleUpTo (blk : Block) :
    ∀ n (h : n ≤ 64), expandUpTo blk n = .ok (pureScheduleUpTo blk n h)
  | 0, _ => rfl
  | n + 1, h => by
    have hr : 16 ≤ 16 + n ∧ 16 + n < 80 := by omega
    have h3 : 16 + n - 3 = 13 + n := by omega
    have h8 : 16 + n - 8 = 8 + n := by omega
    have h14 : 16 + n - 14 = 2 + n := by omega
    have h16 : 16 + n - 16 = n := by omega
    simp only [expandUpTo, expandUpTo_eq_pureScheduleUpTo blk n (by omega), bind, Except.bind,
      scheduleWord_of_range hr, setIfInBounds_eq_set hr.2, pureScheduleUpTo, h3, h8, h14, h16]

theorem expand_eq_pureSchedule (blk : Block) : expand blk = .ok (pureSchedule blk) :=
  expandUpTo_eq_pureScheduleUpTo blk 64 _

/-! ### The rounds -/

/-- One round within the range. -/
theorem roundStep_of_lt {s : State} (h : s.t.toNat < 80) :
    roundStep s = .ok { s with
      a := rotlBits s.a 5 + classFun (stepClass ⟨s.t.toNat, h⟩) s.b s.c s.d + s.e
        + classConst (stepClass ⟨s.t.toNat, h⟩) + s.w[s.t.toNat]
      b := s.a
      c := rotlBits s.b 30
      d := s.c
      e := s.d
      t := s.t + 1 } := by
  simp [roundStep, State.roundTemp, State.roundWord, h, bind, Except.bind, rotl32, roundConst, roundFun]

/-- The working variables as registers. -/
def State.working (s : State) : Working := ⟨s.a, s.b, s.c, s.d, s.e⟩

/-- `s` with the working variables `v` and the step counter `n`. -/
def State.atRound (s : State) (v : Working) (n : Nat) : State :=
  { s with a := v.a, b := v.b, c := v.c, d := v.d, e := v.e, t := BitVec.ofNat 7 n }

/-- A round from a state at round `n`. -/
theorem roundStep_atRound (s : State) (v : Working) {n : Nat} (h : n < 80) :
    roundStep (s.atRound v n) = .ok (s.atRound (pureRound s.w ⟨n, h⟩ v) (n + 1)) := by
  have ht : (s.atRound v n).t.toNat = n := by
    simp only [State.atRound, BitVec.toNat_ofNat]
    omega
  rw [roundStep_of_lt (by omega)]
  simp [State.atRound, pureRound, BitVec.ofNat_add, Nat.mod_eq_of_lt (show n < 128 by omega)]

/-- `n` rounds one after another, the last one outermost. -/
theorem runRounds_succ_right (n : Nat) (s : State) :
    runRounds (n + 1) s = (runRounds n s).bind roundStep := by
  induction n generalizing s with
  | zero => simp only [runRounds, bind, Except.bind]; cases roundStep s <;> rfl
  | succ n ih =>
    rw [runRounds]
    cases h : roundStep s with
    | error f => simp [runRounds, bind, Except.bind, h]
    | ok s' =>
      have hs : runRounds (n + 1) s = runRounds n s' := by simp [runRounds, bind, Except.bind, h]
      rw [hs]
      exact ih s'

/-- The rounds from the start of a block. -/
theorem runRounds_atRound (s : State) (v : Working) :
    ∀ n (h : n ≤ 80), runRounds n (s.atRound v 0) = .ok (s.atRound (pureRounds s.w n h v) n)
  | 0, _ => rfl
  | n + 1, h => by
    rw [runRounds_succ_right, runRounds_atRound s v n (by omega)]
    exact roundStep_atRound s _ (by omega)

/-! ### A block and a job -/

/-- The internal registers W, a to e, t and j and the hash H may differ; everything else is the same. -/
def State.SameOutside (s s' : State) : Prop :=
  s' = { s with h := s'.h, w := s'.w, a := s'.a, b := s'.b, c := s'.c, d := s'.d, e := s'.e, t := s'.t, j := s'.j }

theorem State.SameOutside.trans {s s' s'' : State} (h : s.SameOutside s') (h' : s'.SameOutside s'') :
    s.SameOutside s'' := by
  unfold State.SameOutside at *
  rw [h'] at *
  rw [h]

theorem loadBlock_eq_atRound (k : Nat) (w : Schedule) (s : State) :
    (s.loadBlock k w).atRound ⟨s.h[0], s.h[1], s.h[2], s.h[3], s.h[4]⟩ 0 = s.loadBlock k w := rfl

/-- The compression of one block never faults, and touches H and the internal registers alone. -/
theorem compressBlock_ok (k : Nat) (blk : Block) (s : State) :
    ∃ s', compressBlock k blk s = .ok s' ∧ s'.h = pureCompress s.h blk ∧ s.SameOutside s' := by
  have hr := runRounds_atRound (s.loadBlock k (pureSchedule blk)) ⟨s.h[0], s.h[1], s.h[2], s.h[3], s.h[4]⟩ 80 (by omega)
  rw [loadBlock_eq_atRound] at hr
  simp only [compressBlock, expand_eq_pureSchedule, bind, Except.bind, hr]
  refine ⟨_, rfl, ?_, ?_⟩
  · simp only [State.atRound, State.mix, pureCompress, State.loadBlock_w, State.loadBlock_h]
  · simp only [State.SameOutside, State.atRound, State.mix, State.loadBlock]

/-- The blocks of a job never fault; H is folded over them in order. -/
theorem compressBlocks_ok (blocks : List Block) (k : Nat) (s : State) :
    ∃ s', compressBlocks k blocks s = .ok s' ∧ s'.h = blocks.foldl pureCompress s.h ∧ s.SameOutside s' := by
  induction blocks generalizing k s with
  | nil => exact ⟨s, rfl, rfl, rfl⟩
  | cons blk rest ih =>
    obtain ⟨s₁, h₁, hh, hs⟩ := compressBlock_ok k blk s
    obtain ⟨s₂, h₂, hh₂, hs₂⟩ := ih (k + 1) s₁
    exact ⟨s₂, by simp [compressBlocks, bind, Except.bind, h₁, h₂], by simp [hh₂, hh], hs.trans hs₂⟩

end Sys2Proof.Machine
end

