-- ==== Sys2Proof/Laws/Ops.lean ====
section
/-! SUPPORT. For each shared operation of the meanings and of the step, one lemma that says what it can answer. -/

namespace Sys2Proof.Machine
open Host

/-! ### The shared forms of the meanings -/

/-- A CTRL write goes on: dropped while busy, else performed. -/
theorem ctrlWrite_cases {perform : State → State} {s s' : State} (h : ctrlWrite perform s = .next s') :
    (s.busy = true ∧ s' = s.dropCommand.respond .writeOk) ∨ (s.busy = false ∧ s' = (perform s).respond .writeOk) := by
  simp only [ctrlWrite, Outcome.next.injEq] at h
  subst h
  cases hb : s.busy <;> simp

theorem ctrlWrite_of_busy {perform : State → State} {s : State} (h : s.busy = true) :
    ctrlWrite perform s = .next (s.dropCommand.respond .writeOk) := by simp [ctrlWrite, h]

theorem ctrlWrite_of_idle {perform : State → State} {s : State} (h : s.busy = false) :
    ctrlWrite perform s = .next ((perform s).respond .writeOk) := by simp [ctrlWrite, h]

/-- COMPRESS when not busy is accepted or is BADSTATE. -/
theorem performCompress_cases (s : State) :
    (s.lifeState.takesInput = true ∧ s.performCompress =
      s.startJob { blocks := [s.data], newLen := s.lengthAfterBlock, newState := .absorbing }) ∨
    (s.lifeState.takesInput = false ∧ s.performCompress = s.raiseReject .badState) := by
  cases h : s.lifeState.takesInput <;> simp [State.performCompress, State.latchBlock, h]

/-- FINALIZE n when not busy has four outcomes. -/
theorem performFinalize_cases (n : BitVec 7) (s : State) :
    (n.toNat > 63 ∧ s.performFinalize n = s.raiseReject .malformed) ∨
    (n.toNat ≤ 63 ∧ s.lifeState.takesInput = false ∧ s.performFinalize n = s.raiseReject .badState) ∨
    (n.toNat ≤ 63 ∧ s.lifeState.takesInput = true ∧ pad (tailBytes s.data n.toNat) (s.totalLength n) = none ∧
      s.performFinalize n = s.raiseOversize) ∨
    (n.toNat ≤ 63 ∧ s.lifeState.takesInput = true ∧
      ∃ blocks, pad (tailBytes s.data n.toNat) (s.totalLength n) = some blocks ∧
        s.performFinalize n = s.startJob { blocks := blocks, newLen := BitVec.ofNat 64 (s.totalLength n)
                                           newState := .finalized }) := by
  unfold State.performFinalize
  by_cases hn : n.toNat > 63
  · simp [hn]
  · cases hs : s.lifeState.takesInput
    · simp [hn]; omega
    · cases hp : pad (tailBytes s.data n.toNat) (s.totalLength n) <;> simp [hn] <;> omega

/-- A read that is exact when not busy goes on, with the view or with a free word. -/
theorem readWhenIdle_cases {v : Word} {s s' : State} (h : readWhenIdle v s = .next s') :
    (s.busy = true ∧ s' = s.respondFree) ∨ (s.busy = false ∧ s' = s.respond (.readOk v)) := by
  simp only [readWhenIdle, Outcome.next.injEq] at h
  subst h
  cases hb : s.busy <;> simp

theorem readWhenIdle_of_idle {v : Word} {s : State} (h : s.busy = false) :
    readWhenIdle v s = .next { s with resp := some (.readOk v) } :=
  congrArg Outcome.next (if_neg (by simp [h]))

theorem readWhenIdle_of_busy {v : Word} {s : State} (h : s.busy = true) : readWhenIdle v s = .next s.respondFree :=
  congrArg Outcome.next (if_pos h)

/-! ### Every instruction completes -/

/-- No meaning faults or refuses. -/
theorem exec_goes_on (i : Instr) (s : State) : ∃ s', exec i s = .next s' := by
  cases i <;> exact ⟨_, rfl⟩

/-! ### The turns -/

/-- Taking an access goes on: its instruction's effect, a bus error, or nothing for an address outside the window. -/
theorem takeAccess_cases {acc : Access} {s s' : State} (h : takeAccess acc s = .next s') :
    (∃ i, decode s.base acc = .ok i ∧ exec i s = .next s') ∨
    (decode s.base acc = .error .outsideWindow ∧ s' = s) ∨
    (∃ e, decode s.base acc = .error e ∧ e ≠ .outsideWindow ∧ s' = s.raiseBusError acc.dir) := by
  unfold takeAccess at h
  split at h
  · exact .inl ⟨_, ‹_›, h⟩
  · exact .inr (.inl ⟨‹_›, by simpa using h.symm⟩)
  all_goals exact .inr (.inr ⟨_, ‹_›, by simp, by simpa using h.symm⟩)

/-- Bit 0 of STATUS is BUSY (10_state R27). -/
theorem statusWord_bit0 (s : State) : s.statusWord.getLsbD 0 = s.busy := by
  simp only [State.statusWord]
  rw [BitVec.getLsbD_setWidth, BitVec.getLsbD_append]
  cases s.busy <;> rfl

/-- What the host's turn can do. -/
theorem hostTurn_cases {s s' : State} (h : hostTurn s = .next s') :
    (s.pending = [] ∧ s' = s) ∨
    (∃ acc rest, s.pending = .access acc :: rest ∧ takeAccess acc { s with pending := rest } = .next s') ∨
    (∃ rest, s.pending = .wait :: rest ∧ s.busy = true ∧ s' = s.respond (.readOk s.statusWord)) ∨
    (∃ rest, s.pending = .wait :: rest ∧ s.busy = false ∧
      s' = { s.respond (.readOk s.statusWord) with pending := rest }) := by
  have hb : (s.respond (.readOk s.statusWord)).sawBusy = s.busy := by
    simp only [State.sawBusy, State.respond_resp, Response.bit0, statusWord_bit0]
  unfold hostTurn at h
  split at h
  · exact .inl ⟨‹_›, by simpa using h.symm⟩
  · exact .inr (.inl ⟨_, _, ‹_›, h⟩)
  · simp only [exec, execRdStatus, readExact, hb, Outcome.next.injEq] at h
    subst h
    cases hbusy : s.busy <;> simp_all

/-- The reset operation leaves every register of 10_state R41 at its reset value. -/
theorem applyReset_holds (s : State) : s.applyReset.h = iv ∧ s.applyReset.len = 0 ∧
    s.applyReset.data = Vector.replicate 16 0 ∧ s.applyReset.lifeState = .created ∧ s.applyReset.busy = false ∧
    s.applyReset.ovr = false ∧ s.applyReset.result = .ok ∧ s.applyReset.job = none := by simp

end Sys2Proof.Machine
end

