-- ==== Sys2Proof/Laws/Inversion.lean ====
section
/-! SUPPORT. What the decoder, the padder, an instruction, the engine and the step can answer, each said once, in the
words of the statements. -/

namespace Sys2Proof.Machine
open Sys2Proof.Statements Host

/-! ### The decoder -/

/-- The fields of a command word as numbers (30_encoding R80). -/
theorem cmdFields_toNat (w : Word) :
    (cmdRsv1 w).toNat = w.toNat / 2 ^ 15 ∧ (cmdRsv0 w).toNat = w.toNat / 2 ^ 4 % 16 ∧ (cmdOp w).toNat = opOf w ∧
      (cmdNbytes w).toNat = nbytesOf w := by
  have := w.isLt
  simp only [cmdRsv1, cmdRsv0, cmdOp, cmdNbytes, BitVec.extractLsb'_toNat, opOf, nbytesOf, Nat.shiftRight_eq_div_pow]
  refine ⟨?_, ?_, ?_, ?_⟩ <;> first | trivial | omega

/-- The command decoder over numbers (30_encoding R86). -/
theorem decodeCmd_eq (w : Word) : decodeCmd w =
    if w.toNat / 2 ^ 15 ≠ 0 ∨ w.toNat / 2 ^ 4 % 16 ≠ 0 then .illegal
    else if opOf w = 1 then (if nbytesOf w ≠ 0 then .illegal else .init)
    else if opOf w = 2 then (if nbytesOf w ≠ 64 then .malformed else .compress)
    else if opOf w = 3 then (if nbytesOf w > 63 then .malformed else .finalize (BitVec.ofNat 7 (nbytesOf w)))
    else .illegal := by
  obtain ⟨h1, h2, h3, h4⟩ := cmdFields_toNat w
  have h5 : cmdNbytes w = BitVec.ofNat 7 (nbytesOf w) := by
    apply BitVec.eq_of_toNat_eq
    rw [h4]
    simp [nbytesOf]
  unfold decodeCmd
  simp only [← BitVec.toNat_inj, ne_eq, h1, h2, h3, h4, BitVec.ofNat_eq_ofNat, BitVec.toNat_ofNat]
  simp [h5]

theorem decodeCmd_eq_init_iff (w : Word) : decodeCmd w = .init ↔ w = 0x00000001 := by
  have hop : opOf w = w.toNat % 16 := rfl
  have hnb : nbytesOf w = w.toNat / 2 ^ 8 % 128 := rfl
  rw [decodeCmd_eq, ← BitVec.toNat_inj]
  split_ifs <;> simp <;> omega

/-- An aligned 32-bit access in the window decodes by its descriptor. -/
theorem decode_at (base off : Nat) (dir : Dir) (v : Word) (h : off < 256) (h4 : off % 4 = 0) :
    decode base ⟨dir, .w32, base + off, v⟩ =
      match decodeDescriptor (descriptorOf dir (BitVec.ofNat 8 off)) v with
      | some i => .ok i
      | none => .error .unmapped := by
  have hw : ¬ (base + off < base ∨ base + Config.windowBytes ≤ base + off) := by
    simp only [Config.windowBytes]
    omega
  have ho : base + off - base = off := by omega
  have hd : ¬ (base + off - base) % 4 ≠ 0 := by omega
  exact (if_neg hw).trans ((if_neg (by simp)).trans ((if_neg hd).trans
    (congrArg (fun o => match decodeDescriptor (descriptorOf dir (BitVec.ofNat 8 o)) v with
      | some i => Except.ok i
      | none => Except.error DecodeError.unmapped) ho)))

/-! ### The padder -/

theorem pad_of_lt {len : Nat} (tail : List Byte) (h : len < 2 ^ 61) :
    pad tail len = some (blocksOfBytes ((paddedTail tail len).length / 64) (paddedTail tail len)) := by
  have h' : ¬ len ≥ Config.lenLimit := by simp only [Config.lenLimit]; omega
  simp only [pad, h', if_false]

theorem pad_of_ge {len : Nat} (tail : List Byte) (h : 2 ^ 61 ≤ len) : pad tail len = none := by
  have h' : len ≥ Config.lenLimit := h
  simp only [pad, h', if_true]

/-! ### Instructions -/

theorem takesInput_iff (s : State) : s.lifeState.takesInput = true ↔ InputAllowed s := by
  unfold InputAllowed
  cases s.lifeState <;> simp [LifeState.takesInput]

/-- A CTRL write when not busy: INIT, a rejection, OVERSIZE, or an accepted job. -/
theorem performCommand_cases (w : Word) (s : State) :
    (w = 0x00000001 ∧ s.performCommand w = s.freshHash) ∨
    (w ≠ 0x00000001 ∧ ∃ r, s.performCommand w = s.raiseReject r) ∨
    (w ≠ 0x00000001 ∧ InputAllowed s ∧ s.performCommand w = s.raiseOversize) ∨
    (w ≠ 0x00000001 ∧ InputAllowed s ∧ ∃ jb, s.performCommand w = s.startJob jb) := by
  have h1 := decodeCmd_eq_init_iff w
  have hne : ∀ d, decodeCmd w = d → d ≠ .init → w ≠ 0x00000001 := fun d hd hn e => hn (hd ▸ h1.2 e)
  unfold State.performCommand
  split <;> rename_i h
  · exact .inr (.inl ⟨hne _ h (by simp), _, rfl⟩)
  · exact .inr (.inl ⟨hne _ h (by simp), _, rfl⟩)
  · exact .inl ⟨h1.1 h, rfl⟩
  · rcases performCompress_cases s with ⟨a, b⟩ | ⟨a, b⟩
    · exact .inr (.inr (.inr ⟨hne _ h (by simp), (takesInput_iff s).1 a, _, b⟩))
    · exact .inr (.inl ⟨hne _ h (by simp), _, b⟩)
  · rcases performFinalize_cases _ s with ⟨_, b⟩ | ⟨_, _, b⟩ | ⟨_, a, _, b⟩ | ⟨_, a, _, _, b⟩
    · exact .inr (.inl ⟨hne _ h (by simp), _, b⟩)
    · exact .inr (.inl ⟨hne _ h (by simp), _, b⟩)
    · exact .inr (.inr (.inl ⟨hne _ h (by simp), (takesInput_iff s).1 a, b⟩))
    · exact .inr (.inr (.inr ⟨hne _ h (by simp), (takesInput_iff s).1 a, _, b⟩))

/-- Everything an instruction can do. -/
theorem exec_cases {i : Instr} {s s' : State} (h : exec i s = .next s') :
    (IsCtrlWrite i ∧ s.busy = true ∧ s' = s.dropCommand.respond .writeOk) ∨
    (IsInit i ∧ s.busy = false ∧ s' = s.freshHash.respond .writeOk) ∨
    (IsCtrlWrite i ∧ ¬ IsInit i ∧ s.busy = false ∧ ∃ r, s' = (s.raiseReject r).respond .writeOk) ∨
    (IsCtrlWrite i ∧ ¬ IsInit i ∧ s.busy = false ∧ InputAllowed s ∧ s' = s.raiseOversize.respond .writeOk) ∨
    (IsCtrlWrite i ∧ ¬ IsInit i ∧ s.busy = false ∧ InputAllowed s ∧ ∃ jb, s' = (s.startJob jb).respond .writeOk) ∨
    (¬ IsCtrlWrite i ∧ ∃ k v, i = .wrData k v ∧ s' = (s.writeData k v).respond .writeOk) ∨
    (¬ IsCtrlWrite i ∧ (∀ k v, i ≠ .wrData k v) ∧ ∃ r d, s' = { s with resp := some r, draws := d }) := by
  cases i
  case init =>
    rcases ctrlWrite_cases h with ⟨a, b⟩ | ⟨a, b⟩
    · exact .inl ⟨by simp [IsCtrlWrite], a, b⟩
    · exact .inr (.inl ⟨by simp [IsInit], a, b⟩)
  case compress =>
    rcases ctrlWrite_cases h with ⟨a, b⟩ | ⟨a, b⟩
    · exact .inl ⟨by simp [IsCtrlWrite], a, b⟩
    · rcases performCompress_cases s with ⟨c, d⟩ | ⟨_, d⟩ <;> rw [d] at b
      · exact .inr (.inr (.inr (.inr (.inl ⟨by simp [IsCtrlWrite], by simp [IsInit], a, (takesInput_iff s).1 c, _, b⟩))))
      · exact .inr (.inr (.inl ⟨by simp [IsCtrlWrite], by simp [IsInit], a, _, b⟩))
  case finalize n =>
    rcases ctrlWrite_cases h with ⟨a, b⟩ | ⟨a, b⟩
    · exact .inl ⟨by simp [IsCtrlWrite], a, b⟩
    · rcases performFinalize_cases n s with ⟨_, d⟩ | ⟨_, _, d⟩ | ⟨_, c, _, d⟩ | ⟨_, c, _, _, d⟩ <;> rw [d] at b
      · exact .inr (.inr (.inl ⟨by simp [IsCtrlWrite], by simp [IsInit], a, _, b⟩))
      · exact .inr (.inr (.inl ⟨by simp [IsCtrlWrite], by simp [IsInit], a, _, b⟩))
      · exact .inr (.inr (.inr (.inl ⟨by simp [IsCtrlWrite], by simp [IsInit], a, (takesInput_iff s).1 c, b⟩)))
      · exact .inr (.inr (.inr (.inr (.inl ⟨by simp [IsCtrlWrite], by simp [IsInit], a, (takesInput_iff s).1 c, _, b⟩))))
  case wrCtrl v =>
    rcases ctrlWrite_cases h with ⟨a, b⟩ | ⟨a, b⟩
    · exact .inl ⟨by simp [IsCtrlWrite], a, b⟩
    · rcases performCommand_cases v s with ⟨c, d⟩ | ⟨c, r, d⟩ | ⟨c, e, d⟩ | ⟨c, e, jb, d⟩ <;> rw [d] at b
      · exact .inr (.inl ⟨by simp [IsInit, c], a, b⟩)
      · exact .inr (.inr (.inl ⟨by simp [IsCtrlWrite], by simpa [IsInit] using c, a, _, b⟩))
      · exact .inr (.inr (.inr (.inl ⟨by simp [IsCtrlWrite], by simpa [IsInit] using c, a, e, b⟩)))
      · exact .inr (.inr (.inr (.inr (.inl ⟨by simp [IsCtrlWrite], by simpa [IsInit] using c, a, e, _, b⟩))))
  case wrData k v =>
    have h' : Outcome.next ((s.writeData k v).respond .writeOk) = Outcome.next s' := h
    exact .inr (.inr (.inr (.inr (.inr (.inl ⟨by simp [IsCtrlWrite], k, v, rfl, by simpa using h'.symm⟩)))))
  all_goals
    refine .inr (.inr (.inr (.inr (.inr (.inr ⟨by simp [IsCtrlWrite], by simp, ?_⟩)))))
    first
    | (rcases readWhenIdle_cases h with ⟨_, rfl⟩ | ⟨_, rfl⟩ <;> exact ⟨_, _, rfl⟩)
    | (injection h with h; subst h; exact ⟨_, _, rfl⟩)

/-! ### The engine and the step -/

/-- The engine's turn goes on: nothing without a job, else the job's blocks folded into H, and the job finished. -/
theorem engineTurn_cases (s : State) : ∃ s', engineTurn s = .next s' ∧
    ((s.job = none ∧ s' = s) ∨ ∃ jb s₁, s.job = some jb ∧ s.SameOutside s₁ ∧
      s₁.h = jb.blocks.foldl pureCompress s.h ∧ s' = (s₁.finishJob jb).forgetPipeline) := by
  unfold engineTurn
  cases h : s.job with
  | none => exact ⟨s, rfl, .inl ⟨rfl, rfl⟩⟩
  | some jb =>
    obtain ⟨s₁, h₁, h₂, h₃⟩ := compressBlocks_ok jb.blocks 0 s
    exact ⟨_, by simp only [completeJob, h₁], .inr ⟨jb, s₁, rfl, h₃, h₂, rfl⟩⟩

/-- What a job's compression leaves alone, field by field. -/
theorem State.SameOutside.fields {s s₁ : State} (h : s.SameOutside s₁) :
    s₁.data = s.data ∧ s₁.ovr = s.ovr ∧ s₁.result = s.result ∧ s₁.resp = s.resp ∧ s₁.base = s.base ∧
      s₁.pending = s.pending ∧ s₁.turns = s.turns ∧ s₁.resetLine = s.resetLine := by
  unfold State.SameOutside at h
  rw [h]
  simp

/-- The step is the mover's turn. -/
theorem step_eq_takeTurn (s : State) : step s = takeTurn (mover s) { s with turns := s.turns.tail } := by
  unfold step nextTurn mover
  cases h : s.turns <;> simp
  congr
  cases s
  simp_all

end Sys2Proof.Machine
end

