-- ==== Sys2Proof/Laws/PerInstr.lean ====
section
/-! SUPPORT. Facts about each instruction as syntax, one lemma for each constructor of Instr. -/

open Sys2Proof Sys2Proof.Machine

/-- The encoder gives an aligned 32-bit access inside the window (20_memory R61, R63). -/
def Sys2Proof.Laws.EncodeInWindow.Statement (i : Instr) : Prop :=
  ∀ base, (encode base i).width = .w32 ∧ base ≤ (encode base i).addr ∧
    (encode base i).addr < base + Config.windowBytes ∧ ((encode base i).addr - base) % 4 = 0

namespace Sys2Proof.Laws.EncodeInWindow

/-- A read or a write at an offset that is a multiple of 4 below 256. -/
theorem readAt_writeAt_inWindow {off : Nat} (h : off < 256) (h4 : off % 4 = 0) (base : Nat) (v : Word) :
    ((readAt base off).width = .w32 ∧ base ≤ (readAt base off).addr ∧
      (readAt base off).addr < base + Config.windowBytes ∧ ((readAt base off).addr - base) % 4 = 0) ∧
    ((writeAt base off v).width = .w32 ∧ base ≤ (writeAt base off v).addr ∧
      (writeAt base off v).addr < base + Config.windowBytes ∧ ((writeAt base off v).addr - base) % 4 = 0) := by
  simp only [readAt, writeAt, Config.windowBytes]
  exact ⟨⟨trivial, by omega⟩, trivial, by omega⟩

theorem init : Statement (.init) := fun base => (readAt_writeAt_inWindow (by decide) (by decide) base _).2
theorem compress : Statement (.compress) := fun base => (readAt_writeAt_inWindow (by decide) (by decide) base _).2
theorem finalize (n : BitVec 7) : Statement (.finalize n) := fun base => (readAt_writeAt_inWindow (by decide) (by decide) base _).2
theorem wrCtrl (v : Word) : Statement (.wrCtrl v) := fun base => (readAt_writeAt_inWindow (by decide) (by decide) base _).2
theorem rdCtrl : Statement (.rdCtrl) := fun base => (readAt_writeAt_inWindow (by decide) (by decide) base 0).1
theorem rdStatus : Statement (.rdStatus) := fun base => (readAt_writeAt_inWindow (by decide) (by decide) base 0).1
theorem rdLenLo : Statement (.rdLenLo) := fun base => (readAt_writeAt_inWindow (by decide) (by decide) base 0).1
theorem rdLenHi : Statement (.rdLenHi) := fun base => (readAt_writeAt_inWindow (by decide) (by decide) base 0).1
theorem rdDigest0 : Statement (.rdDigest0) := fun base => (readAt_writeAt_inWindow (by decide) (by decide) base 0).1
theorem rdDigest1 : Statement (.rdDigest1) := fun base => (readAt_writeAt_inWindow (by decide) (by decide) base 0).1
theorem rdDigest2 : Statement (.rdDigest2) := fun base => (readAt_writeAt_inWindow (by decide) (by decide) base 0).1
theorem rdDigest3 : Statement (.rdDigest3) := fun base => (readAt_writeAt_inWindow (by decide) (by decide) base 0).1
theorem rdDigest4 : Statement (.rdDigest4) := fun base => (readAt_writeAt_inWindow (by decide) (by decide) base 0).1
theorem rdData (i : Fin 16) : Statement (.rdData i) := fun base => (readAt_writeAt_inWindow (by omega) (by omega) base 0).1
theorem wrData (i : Fin 16) (v : Word) : Statement (.wrData i v) := fun base => (readAt_writeAt_inWindow (by omega) (by omega) base _).2
theorem rdHex0 : Statement (.rdHex0) := fun base => (readAt_writeAt_inWindow (by decide) (by decide) base 0).1
theorem rdHex1 : Statement (.rdHex1) := fun base => (readAt_writeAt_inWindow (by decide) (by decide) base 0).1
theorem rdHex2 : Statement (.rdHex2) := fun base => (readAt_writeAt_inWindow (by decide) (by decide) base 0).1
theorem rdHex3 : Statement (.rdHex3) := fun base => (readAt_writeAt_inWindow (by decide) (by decide) base 0).1
theorem rdHex4 : Statement (.rdHex4) := fun base => (readAt_writeAt_inWindow (by decide) (by decide) base 0).1
theorem rdHex5 : Statement (.rdHex5) := fun base => (readAt_writeAt_inWindow (by decide) (by decide) base 0).1
theorem rdHex6 : Statement (.rdHex6) := fun base => (readAt_writeAt_inWindow (by decide) (by decide) base 0).1
theorem rdHex7 : Statement (.rdHex7) := fun base => (readAt_writeAt_inWindow (by decide) (by decide) base 0).1
theorem rdHex8 : Statement (.rdHex8) := fun base => (readAt_writeAt_inWindow (by decide) (by decide) base 0).1
theorem rdHex9 : Statement (.rdHex9) := fun base => (readAt_writeAt_inWindow (by decide) (by decide) base 0).1
theorem wrStatus (v : Word) : Statement (.wrStatus v) := fun base => (readAt_writeAt_inWindow (by decide) (by decide) base _).2
theorem wrLenLo (v : Word) : Statement (.wrLenLo v) := fun base => (readAt_writeAt_inWindow (by decide) (by decide) base _).2
theorem wrLenHi (v : Word) : Statement (.wrLenHi v) := fun base => (readAt_writeAt_inWindow (by decide) (by decide) base _).2
theorem wrDigest0 (v : Word) : Statement (.wrDigest0 v) := fun base => (readAt_writeAt_inWindow (by decide) (by decide) base _).2
theorem wrDigest1 (v : Word) : Statement (.wrDigest1 v) := fun base => (readAt_writeAt_inWindow (by decide) (by decide) base _).2
theorem wrDigest2 (v : Word) : Statement (.wrDigest2 v) := fun base => (readAt_writeAt_inWindow (by decide) (by decide) base _).2
theorem wrDigest3 (v : Word) : Statement (.wrDigest3 v) := fun base => (readAt_writeAt_inWindow (by decide) (by decide) base _).2
theorem wrDigest4 (v : Word) : Statement (.wrDigest4 v) := fun base => (readAt_writeAt_inWindow (by decide) (by decide) base _).2
theorem wrHex0 (v : Word) : Statement (.wrHex0 v) := fun base => (readAt_writeAt_inWindow (by decide) (by decide) base _).2
theorem wrHex1 (v : Word) : Statement (.wrHex1 v) := fun base => (readAt_writeAt_inWindow (by decide) (by decide) base _).2
theorem wrHex2 (v : Word) : Statement (.wrHex2 v) := fun base => (readAt_writeAt_inWindow (by decide) (by decide) base _).2
theorem wrHex3 (v : Word) : Statement (.wrHex3 v) := fun base => (readAt_writeAt_inWindow (by decide) (by decide) base _).2
theorem wrHex4 (v : Word) : Statement (.wrHex4 v) := fun base => (readAt_writeAt_inWindow (by decide) (by decide) base _).2
theorem wrHex5 (v : Word) : Statement (.wrHex5 v) := fun base => (readAt_writeAt_inWindow (by decide) (by decide) base _).2
theorem wrHex6 (v : Word) : Statement (.wrHex6 v) := fun base => (readAt_writeAt_inWindow (by decide) (by decide) base _).2
theorem wrHex7 (v : Word) : Statement (.wrHex7 v) := fun base => (readAt_writeAt_inWindow (by decide) (by decide) base _).2
theorem wrHex8 (v : Word) : Statement (.wrHex8 v) := fun base => (readAt_writeAt_inWindow (by decide) (by decide) base _).2
theorem wrHex9 (v : Word) : Statement (.wrHex9 v) := fun base => (readAt_writeAt_inWindow (by decide) (by decide) base _).2

end Sys2Proof.Laws.EncodeInWindow
end

