-- ==== Sys2Proof/Tests/Slice0.lean ====
section
/-! SUPPORT. Tests: expected values from 95_test_vectors and the encodings of 30_encoding; and, for every statement
with hypotheses, a concrete state and operands that meet them. -/

set_option Elab.async false

namespace Sys2Proof.Tests
open Sys2Proof Sys2Proof.Machine Sys2Proof.Statements Host

/-- The outcome is a next state with the property. -/
def after (o : Outcome State Fault Refusal) (p : State → Bool) : Bool :=
  match o with
  | .next s => p s
  | .fault _ => false
  | .refused _ => false

/-- The outcome is a next state whose STATUS is the word. -/
def statusIs (v : Word) (o : Outcome State Fault Refusal) : Bool := after o fun s => s.statusWord == v

/-- The read completes with the word. -/
def readsWord (v : Word) (o : Outcome State Fault Refusal) : Bool := after o fun s => s.resp == some (.readOk v)

/-- Not busy, in the life state, with the length. -/
def idle (st : LifeState) (len : BitVec 64) : State := { State.reset with lifeState := st, len := len }

/-- A COMPRESS of the zero block in flight from CREATED. -/
def busy : State :=
  { State.reset with
    busy := true
    job := some { blocks := [Vector.replicate 16 0], newLen := 64, newState := .absorbing } }

/-- The host is about to make the access. -/
def about (acc : Access) : State := State.reset.placeAccess acc

/-- The block of a list of words, the rest 0. -/
def block (ws : List Word) : Block := Vector.ofFn fun i => ws.getD i.val 0

/-! ### Well-formedness -/

theorem test_wf_refuses_a_tail_of_64_bytes : Instr.wf (.finalize 64) = false := by decide
theorem test_wf_refuses_init_spelled_as_wrCtrl : Instr.wf (.wrCtrl 0x00000001) = false := by decide
theorem test_wf_refuses_compress_spelled_as_wrCtrl : Instr.wf (.wrCtrl 0x00004002) = false := by decide
theorem test_wf_refuses_finalize_spelled_as_wrCtrl : Instr.wf (.wrCtrl 0x00003F03) = false := by decide
theorem test_wf_admits_undefined_words : Instr.wf (.wrCtrl 0x00004003) = true ∧ Instr.wf (.finalize 63) = true := by decide

/-! ### Decoding: words written out from 30_encoding R80, R85, R88 -/

/-- 95_test_vectors 2.7. -/
theorem test_decode_command_words :
    decodeCmd 0b00000000000000000_0000000_0000_0001 = .init ∧
    decodeCmd 0b00000000000000000_1000000_0000_0010 = .compress ∧
    decodeCmd 0b00000000000000000_0110111_0000_0011 = .finalize 55 ∧
    decodeCmd 0b00000000000000000_0000000_0000_0011 = .finalize 0 := by decide

theorem test_decode_malformed_words :
    ([0x00004003, 0x00007F03, 0x00000002, 0x00003F02, 0x00004102] : List Word).all
      (fun w => decodeCmd w == .malformed) = true := by decide

theorem test_decode_illegal_words :
    ([0x00000101, 0, 4, 0xF, 0x12, 0x00008003, 0x00010002, 0x80004002, 0xFFFFFFFF] : List Word).all
      (fun w => decodeCmd w == .illegal) = true := by decide

theorem test_decode_table_command_rows :
    decodeTableWord 32 0b00000000000000000_0000000_0000_0001 = some .init ∧
    decodeTableWord 32 0b00000000000000000_1000000_0000_0010 = some .compress ∧
    decodeTableWord 32 0b00000000000000000_0111111_0000_0011 = some (.finalize 63) ∧
    decodeTableWord 16 0b1_0000_0000 = some (.wrCtrl 0) := by decide

theorem test_decode_control_reads :
    decodeTableWord 16 0b0_0000_0000 = some .rdCtrl ∧ decodeTableWord 16 0b0_0000_0100 = some .rdStatus ∧
    decodeTableWord 16 0b0_0000_1000 = some .rdLenLo ∧ decodeTableWord 16 0b0_0000_1100 = some .rdLenHi := by decide

theorem test_decode_digest_reads :
    decodeTableWord 16 0b0_0001_0000 = some .rdDigest0 ∧ decodeTableWord 16 0b0_0001_0100 = some .rdDigest1 ∧
    decodeTableWord 16 0b0_0001_1000 = some .rdDigest2 ∧ decodeTableWord 16 0b0_0001_1100 = some .rdDigest3 ∧
    decodeTableWord 16 0b0_0010_0000 = some .rdDigest4 := by decide

theorem test_decode_data_accesses :
    decodeTableWord 16 0b0_0100_0000 = some (.rdData 0) ∧ decodeTableWord 16 0b0_0111_1100 = some (.rdData 15) ∧
    decodeTableWord 16 0b1_0101_0100 = some (.wrData 5 0) ∧
    decodeTableWord 48 0xDEADBEEF_0154 = some (.wrData 5 0xDEADBEEF) := by decide

theorem test_decode_hex_reads :
    decodeTableWord 16 0b0_1000_0000 = some .rdHex0 ∧ decodeTableWord 16 0b0_1000_0100 = some .rdHex1 ∧
    decodeTableWord 16 0b0_1000_1000 = some .rdHex2 ∧ decodeTableWord 16 0b0_1000_1100 = some .rdHex3 ∧
    decodeTableWord 16 0b0_1001_0000 = some .rdHex4 ∧ decodeTableWord 16 0b0_1001_0100 = some .rdHex5 ∧
    decodeTableWord 16 0b0_1001_1000 = some .rdHex6 ∧ decodeTableWord 16 0b0_1001_1100 = some .rdHex7 ∧
    decodeTableWord 16 0b0_1010_0000 = some .rdHex8 ∧ decodeTableWord 16 0b0_1010_0100 = some .rdHex9 := by decide

theorem test_decode_read_only_writes :
    decodeTableWord 16 0b1_0000_0100 = some (.wrStatus 0) ∧ decodeTableWord 16 0b1_0000_1000 = some (.wrLenLo 0) ∧
    decodeTableWord 16 0b1_0000_1100 = some (.wrLenHi 0) ∧ decodeTableWord 16 0b1_0001_0000 = some (.wrDigest0 0) ∧
    decodeTableWord 16 0b1_0001_0100 = some (.wrDigest1 0) ∧ decodeTableWord 16 0b1_0001_1000 = some (.wrDigest2 0) ∧
    decodeTableWord 16 0b1_0001_1100 = some (.wrDigest3 0) ∧ decodeTableWord 16 0b1_0010_0000 = some (.wrDigest4 0) := by
  decide

theorem test_decode_hex_writes :
    decodeTableWord 16 0b1_1000_0000 = some (.wrHex0 0) ∧ decodeTableWord 16 0b1_1000_0100 = some (.wrHex1 0) ∧
    decodeTableWord 16 0b1_1000_1000 = some (.wrHex2 0) ∧ decodeTableWord 16 0b1_1000_1100 = some (.wrHex3 0) ∧
    decodeTableWord 16 0b1_1001_0000 = some (.wrHex4 0) ∧ decodeTableWord 16 0b1_1001_0100 = some (.wrHex5 0) ∧
    decodeTableWord 16 0b1_1001_1000 = some (.wrHex6 0) ∧ decodeTableWord 16 0b1_1001_1100 = some (.wrHex7 0) ∧
    decodeTableWord 16 0b1_1010_0000 = some (.wrHex8 0) ∧ decodeTableWord 16 0b1_1010_0100 = some (.wrHex9 0) := by
  decide

/-- Unmapped offsets, a misaligned one, and a bit above the descriptor. -/
theorem test_decode_rejects :
    [0x24, 0x3C, 0xA8, 0xFC, 0x124, 0x05, 0x06, 0x42, 0x204].all
      (fun w => (decodeTableWord 16 w).isNone) = true := by decide

/-! ### Commands (95_test_vectors 2.8) -/

theorem test_init_leaves_finalized : statusIs 0x00000000 (exec .init (idle .finalized 3)) = true := by decide
theorem test_init_leaves_failed :
    after (exec .init { idle .failed 0x2000000000000000 with h := Vector.replicate 5 7, ovr := true })
      (fun s => s.h == iv && s.len == 0 && s.statusWord == 0) = true := by decide
theorem test_compress_from_created : statusIs 0x00000001 (exec .compress State.reset) = true := by decide
theorem test_compress_in_finalized_is_badstate :
    statusIs 0x00000322 (exec .compress (idle .finalized 3)) = true := by decide
theorem test_finalize_at_the_limit_is_oversize :
    statusIs 0x00000430 (exec (.finalize 0) (idle .absorbing 0x2000000000000000)) = true := by decide +kernel
theorem test_finalize_below_the_limit_is_accepted :
    after (exec (.finalize 63) (idle .absorbing 0x1FFFFFFFFFFFFFC0))
      (fun s => s.statusWord == 0x00000011 && s.job.map (·.newLen) == some 0x1FFFFFFFFFFFFFFF) = true := by decide +kernel
theorem test_illegal_beats_malformed_and_badstate :
    statusIs 0x00000122 (exec (.wrCtrl 0x00010002) (idle .finalized 3)) = true := by decide
theorem test_malformed_is_checked_before_oversize :
    statusIs 0x00000210 (exec (.wrCtrl 0x00004003) (idle .absorbing 0x1FFFFFFFFFFFFFC0)) = true := by decide
theorem test_command_while_busy_sets_overrun : statusIs 0x00000005 (exec .compress busy) = true := by decide
theorem test_compress_keeps_overrun :
    statusIs 0x00000015 (exec .compress { idle .absorbing 64 with ovr := true }) = true := by decide

/-! ### Register accesses (95_test_vectors 2.6, 2.9) -/

theorem test_read_control_registers :
    readsWord 0 (exec .rdCtrl busy) = true ∧ readsWord 0x00000001 (exec .rdStatus busy) = true ∧
    readsWord 0xFFFFFFFF (exec .rdLenLo (idle .finalized 0x1FFFFFFFFFFFFFFF)) = true ∧
    readsWord 0x1FFFFFFF (exec .rdLenHi (idle .finalized 0x1FFFFFFFFFFFFFFF)) = true := by decide

theorem test_read_digest_of_iv :
    readsWord 0x67452301 (exec .rdDigest0 State.reset) = true ∧ readsWord 0xEFCDAB89 (exec .rdDigest1 State.reset) = true ∧
    readsWord 0x98BADCFE (exec .rdDigest2 State.reset) = true ∧ readsWord 0x10325476 (exec .rdDigest3 State.reset) = true ∧
    readsWord 0xC3D2E1F0 (exec .rdDigest4 State.reset) = true := by decide

theorem test_read_digest_in_failed :
    readsWord 0 (exec .rdDigest0 (idle .failed 0)) = true ∧ readsWord 0 (exec .rdHex9 (idle .failed 0)) = true := by decide

theorem test_read_hex_of_iv :
    readsWord 0x36373435 (exec .rdHex0 State.reset) = true ∧ readsWord 0x32333031 (exec .rdHex1 State.reset) = true ∧
    readsWord 0x65666364 (exec .rdHex2 State.reset) = true ∧ readsWord 0x61623839 (exec .rdHex3 State.reset) = true ∧
    readsWord 0x39386261 (exec .rdHex4 State.reset) = true ∧ readsWord 0x64636665 (exec .rdHex5 State.reset) = true ∧
    readsWord 0x31303332 (exec .rdHex6 State.reset) = true ∧ readsWord 0x35343736 (exec .rdHex7 State.reset) = true ∧
    readsWord 0x63336432 (exec .rdHex8 State.reset) = true ∧ readsWord 0x65316630 (exec .rdHex9 State.reset) = true := by
  decide

theorem test_data_write_and_read_while_busy :
    after (exec (.wrData 5 0xDEADBEEF) busy)
      (fun s => readsWord 0xDEADBEEF (exec (.rdData 5) s) && readsWord 0 (exec (.rdData 4) s)) = true := by decide

theorem test_read_only_writes_have_no_effect :
    [.wrStatus 0xFFFFFFFF, .wrLenLo 1, .wrLenHi 1, .wrDigest0 1, .wrDigest1 1, .wrDigest2 1, .wrDigest3 1, .wrDigest4 1,
      .wrHex0 1, .wrHex1 1, .wrHex2 1, .wrHex3 1, .wrHex4 1, .wrHex5 1, .wrHex6 1, .wrHex7 1, .wrHex8 1, .wrHex9 1].all
      (fun i => after (exec i State.reset) (fun s => s == { State.reset with resp := some .writeOk })) = true := by decide

theorem test_bus_errors :
    [⟨.read, .w32, 0x24, 0⟩, ⟨.read, .w32, 0x06, 0⟩, ⟨.read, .w8, 0x04, 0⟩].all
      (fun acc => after (step (about acc)) (fun s => s == { State.reset with resp := some (.readError 0) })) = true ∧
    after (step (about ⟨.write, .w16, 0x00, 0x00004002⟩))
      (fun s => s == { State.reset with resp := some .writeError }) = true := by decide

/-! ### The datapath (95_test_vectors 2.1 to 2.5) -/

theorem test_rotate :
    rotlBits 0x80000000 1 = 0x00000001 ∧ rotlBits 0x12345678 5 = 0x468ACF02 ∧ rotlBits 0x12345678 30 = 0x048D159E := by
  decide

theorem test_word_functions :
    ch 0xF0F0F0F0 0xFF00FF00 0x0F0F0F0F = 0xFF0FFF0F ∧ parity 0xF0F0F0F0 0xFF00FF00 0x0F0F0F0F = 0x00FF00FF ∧
    maj 0xF0F0F0F0 0xFF00FF00 0x0F0F0F0F = 0xFF00FF00 := by decide

/-- 41_schedule_expander R126. -/
theorem test_schedule_of_abc :
    (match expand (block [0x61626380, 0, 0, 0, 0, 0, 0, 0, 0, 0, 0, 0, 0, 0, 0, 0x00000018]) with
      | .ok w => w[16] == 0xC2C4C700#32 && w[18] == 0x00000030#32 && w[19] == 0x85898E01#32 && w[79] == 0x822E0879#32
      | .error _ => false) = true := by decide +kernel

theorem test_pad_of_abc_ignores_the_stale_byte :
    pad (tailBytes (block [0x616263FF]) 3) 3 =
      some [block [0x61626380, 0, 0, 0, 0, 0, 0, 0, 0, 0, 0, 0, 0, 0, 0, 0x00000018]] := by decide +kernel

theorem test_pad_of_56_bytes_makes_two_blocks :
    pad (tailBytes (block [0x61626364]) 56) 56 =
      some [block [0x61626364, 0, 0, 0, 0, 0, 0, 0, 0, 0, 0, 0, 0, 0, 0x80000000, 0],
        block [0, 0, 0, 0, 0, 0, 0, 0, 0, 0, 0, 0, 0, 0, 0, 0x000001C0]] := by decide +kernel

/-- 42_round_pipeline R139, the first row. -/
theorem test_first_round_of_abc :
    (match roundStep (State.reset.loadBlock 0 (Vector.ofFn fun i => if i.val = 0 then 0x61626380 else 0)) with
      | .ok s => s.a == 0x0116FC33 && s.b == 0x67452301 && s.c == 0x7BF36AE2 && s.d == 0x98BADCFE && s.e == 0x10325476
      | .error _ => false) = true := by decide +kernel

/-- Program P1: the completion step of `FINALIZE 3` with "abc" in DATA. -/
theorem test_completion_of_abc :
    after (exec (.finalize 3) { State.reset with data := block [0x61626300] }) (fun s => after (step s) fun s' =>
      s'.h == #v[0xA9993E36, 0x4706816A, 0xBA3E2571, 0x7850C26C, 0x9CD0D89D] && s'.len == 3 &&
        s'.statusWord == 0x00000022) = true := by decide +kernel

/-! ### Witnesses: states and operands that meet each statement's hypotheses -/

theorem busy_meets_the_invariant : busy.Inv where
  busy_iff_job := rfl
  len_bound := Nat.zero_le _
  job_legal jb h := by
    obtain rfl : _ = jb := Option.some.inj h
    exact ⟨.inl rfl, by decide +kernel, .inl rfl, fun h => absurd h (by decide)⟩
  busy_state _ := .inl rfl
  busy_ok _ := rfl
  created_fresh _ := ⟨rfl, rfl⟩
  finalized_bound h := absurd h (by decide)
  reset_holds h := absurd h (by decide)
  base_aligned := rfl

theorem failed_meets_the_invariant : (idle .failed 0).Inv where
  busy_iff_job := rfl
  len_bound := Nat.zero_le _
  job_legal jb h := by cases h
  busy_state h := absurd h (by decide)
  busy_ok h := absurd h (by decide)
  created_fresh h := absurd h (by decide)
  finalized_bound h := absurd h (by decide)
  reset_holds h := absurd h (by decide)
  base_aligned := rfl

theorem test_witness_ResetInputRestoresRegistersAndDiscardsJob :
    { busy with turns := [.assertReset] }.turns = Turn.assertReset :: [] ∧
    ({ State.reset with turns := [.releaseReset], resetLine := true } : State).turns = Turn.releaseReset :: [] ∧
    ({ State.reset with turns := [.releaseReset], resetLine := true } : State).resetLine = true ∧
    State.reset.busy = false ∧ State.reset.job = none := by decide

theorem test_witness_HostTakesNoAccessWhileResetIsAsserted :
    ∃ s : State, s.resetLine = true ∧ mover s ≠ .releaseReset ∧ s.pending ≠ [] :=
  ⟨{ State.reset with resetLine := true, pending := [.wait] }, rfl, by decide, by decide⟩

theorem test_witness_EveryCommandWordDecodesAsTheEncodingSays :
    (63#7).toNat ≤ 63 ∧ (0x00003F03 : Word).toNat = 0x00000003 + (63#7).toNat * 2 ^ 8 ∧
    (0x00003F03 : Word) &&& 0xFFFFC0FF = 0x00000003 ∧ IllegalWord 0x00008003 ∧ IllegalWord 0x00000101 ∧
    MalformedWord 0x00004003 ∧ MalformedWord 0x00000002 := by
  unfold MalformedWord IllegalWord opOf nbytesOf
  decide

theorem test_witness_DecodeOfEncodeIsTheInstruction :
    Instr.wf (.finalize 63) = true ∧ Instr.wf (.wrCtrl 0x00004003) = true ∧ Instr.wf (.wrData 15 0xFFFFFFFF) = true := by
  decide

theorem test_witness_EncodeOfDecodeIsTheAccess :
    decode 0x100 ⟨.write, .w32, 0x100, 0x00003F03⟩ = .ok (.finalize 63) ∧
    decode 0x100 ⟨.read, .w32, 0x1A4, 7⟩ = .ok .rdHex9 := ⟨rfl, rfl⟩

theorem test_witness_ExactlyTheMappedAlignedWordsDecode :
    [0x20, 0x40, 0x7C, 0x80, 0xA4].all (fun off => off < 256 &&
      (match decode 0 ⟨.read, .w32, 0 + off, 0⟩ with | .ok _ => true | .error _ => false)) = true ∧
    [0x24, 0x3C, 0xA8, 0xFC, 0x21].all (fun off => off < 256 &&
      (match decode 0 ⟨.read, .w32, 0 + off, 0⟩ with | .ok _ => false | .error _ => true)) = true := by decide

theorem test_witness_TableWordRunsAsTheNextInstruction :
    decodeTableWord 32 0x00003F03 = some (.finalize 63) ∧ decodeTableWord 16 0x00A4 = some .rdHex9 := by decide

theorem test_witness_StepRunsTheDecodedInstruction :
    ∃ s : State, ∃ acc rest i, s.resetLine = false ∧ s.pending = .access acc :: rest ∧ decode s.base acc = .ok i ∧
      (∃ ts, s.turns = .host :: ts) ∧ ({ s with turns := [] } : State).turns = [] ∧ s.job = none :=
  ⟨about (readAt 0 0x04), readAt 0 0x04, [], .rdStatus, rfl, rfl, rfl, ⟨[], rfl⟩, rfl, rfl⟩

/-- One witness for each kind of bad access, at the ends of its range. -/
theorem test_witness_BadAccessIsABusErrorWithoutEffect :
    (∀ acc : Access, (about acc).resetLine = false ∧ (about acc).turns = .host :: [] ∧
      (about acc).pending = .access acc :: []) ∧
    (0x04 < 256 ∧ Width.w8 ≠ .w32) ∧ (0x06 < 256 ∧ 0x06 % 4 ≠ 0) ∧
    (∀ off ∈ [0x24, 0x3C, 0xA8, 0xFC], off < 256 ∧ ((0x24 ≤ off ∧ off ≤ 0x3C) ∨ 0xA8 ≤ off) ∧
      (⟨.read, .w32, 0 + off, 0⟩ : Access).addr = State.reset.base + off) :=
  ⟨fun _ => ⟨rfl, rfl, rfl⟩, by decide, by decide, by decide⟩

theorem test_witness_AccessOutsideTheWindowDoesNotReachTheEngine :
    ∃ s : State, s.resetLine = false ∧ s.base = 0x100 ∧ s.turns = .host :: [] ∧
      (∃ acc rest, s.pending = .access acc :: rest ∧ acc.addr = 0xFF ∧ acc.addr < s.base) ∧
      s.base + 256 ≤ (readAt 0 0x200).addr :=
  ⟨{ about (readAt 0 0xFF) with base := 0x100 }, rfl, rfl, rfl, ⟨_, _, rfl, rfl, by decide⟩, by decide⟩

theorem test_witness_WaitPollsUntilBusyIsZero :
    ∃ s : State, s.resetLine = false ∧ s.turns = .host :: [] ∧ s.pending = .wait :: [] ∧ s.busy = true :=
  ⟨{ busy with turns := [.host], pending := [.wait] }, rfl, rfl, rfl, rfl⟩

/-- One witness for each clause: the host and the engine each idle while the other has something to do. -/
theorem test_witness_IdleMachineKeepsAllState :
    (∃ s : State, s.resetLine = false ∧ s.turns = .engine :: [] ∧ s.job = none ∧ s.pending ≠ []) ∧
    (∃ s : State, s.resetLine = false ∧ s.turns = .host :: [] ∧ s.pending = [] ∧ s.job ≠ none) ∧
    (∃ s : State, s.resetLine = false ∧ s.turns = .releaseReset :: []) ∧
    (State.reset.resetLine = false ∧ State.reset.turns = [] ∧ State.reset.pending = [] ∧ State.reset.job = none) :=
  ⟨⟨{ State.reset with turns := [.engine], pending := [.wait] }, rfl, rfl, rfl, by decide⟩,
    ⟨{ busy with turns := [.host] }, rfl, rfl, rfl, by decide⟩,
    ⟨{ State.reset with turns := [.releaseReset] }, rfl, rfl⟩, by decide⟩

theorem test_witness_InitStartsAFreshMessage :
    State.reset.busy = false ∧ busy.busy = true ∧ (∃ s', exec .init busy = .next s') ∧ (idle .failed 0).lifeState = .failed ∧
      ∃ s', exec .init (idle .failed 0) = .next s' ∧ s'.lifeState ≠ .failed :=
  ⟨rfl, rfl, ⟨_, rfl⟩, rfl, _, rfl, by decide⟩

theorem test_witness_CompressIsAcceptedWithTheBlockLatched :
    State.reset.busy = false ∧ InputAllowed State.reset ∧ InputAllowed (idle .absorbing 0x2000000000000000) :=
  ⟨rfl, .inl rfl, .inr rfl⟩

theorem test_witness_FinalizeIsAcceptedOrOversize :
    (idle .absorbing 0x1FFFFFFFFFFFFFC0).busy = false ∧ InputAllowed (idle .absorbing 0x1FFFFFFFFFFFFFC0) ∧ (63#7).toNat ≤ 63 ∧
    (idle .absorbing 0x1FFFFFFFFFFFFFC0).len.toNat + (63#7).toNat < 2 ^ 61 ∧
    (idle .absorbing 0x1FFFFFFFFFFFFFC1).len.toNat + (63#7).toNat ≥ 2 ^ 61 :=
  ⟨rfl, .inr rfl, by decide, by decide +kernel, by decide +kernel⟩

theorem test_witness_CtrlWriteWhileBusyOnlySetsOverrun :
    busy.busy = true ∧ IsCtrlWrite .init ∧ IsCtrlWrite .compress ∧ IsCtrlWrite (.finalize 63) ∧ IsCtrlWrite (.wrCtrl 0) :=
  ⟨rfl, .inl rfl, .inr (.inl rfl), .inr (.inr (.inl ⟨_, rfl⟩)), .inr (.inr (.inr ⟨_, rfl⟩))⟩

theorem test_witness_UndefinedWordsAreRejectedWithoutEffect :
    State.reset.busy = false ∧ IllegalWord 0x00008003 ∧ MalformedWord 0x00004003 ∧ (64#7).toNat > 63 := by
  unfold MalformedWord IllegalWord opOf nbytesOf
  decide

theorem test_witness_LegalityOfCommandsByState :
    State.reset.busy = false ∧ (63#7).toNat ≤ 63 ∧ InputAllowed State.reset ∧ ¬ InputAllowed (idle .finalized 0) ∧
    ¬ InputAllowed (idle .failed 0) := by
  unfold InputAllowed
  decide

/-- One word for each outcome, in the order of 60_exceptions R222. -/
theorem test_witness_CtrlWriteReportsTheFirstConditionThatApplies :
    busy.busy = true ∧ State.reset.busy = false ∧ IllegalWord 0x00010002 ∧ MalformedWord 0x00000002 ∧
    (¬ IllegalWord 0x00004002 ∧ ¬ MalformedWord 0x00004002 ∧ opOf 0x00004002 ≠ 1 ∧ ¬ InputAllowed (idle .failed 0)) ∧
    (¬ IllegalWord 0x00003F03 ∧ ¬ MalformedWord 0x00003F03 ∧ opOf 0x00003F03 = 3 ∧ InputAllowed (idle .absorbing 0x1FFFFFFFFFFFFFC1) ∧
      (idle .absorbing 0x1FFFFFFFFFFFFFC1).len.toNat + nbytesOf 0x00003F03 ≥ 2 ^ 61) ∧
    (InputAllowed (idle .absorbing 0x1FFFFFFFFFFFFFC0) ∧
      (idle .absorbing 0x1FFFFFFFFFFFFFC0).len.toNat + nbytesOf 0x00003F03 < 2 ^ 61) := by
  unfold MalformedWord IllegalWord InputAllowed opOf nbytesOf
  exact ⟨rfl, rfl, by decide, by decide, ⟨by decide, by decide, by decide, by decide⟩,
    ⟨by decide, by decide, by decide, .inr rfl, by decide +kernel⟩, .inr rfl, by decide +kernel⟩

theorem test_witness_CtrlWriteOfACommandWordIsTheCommand : (0#7).toNat ≤ 63 ∧ (63#7).toNat ≤ 63 := by decide

theorem test_witness_LengthReadsGiveTheHalvesOfTheCounter : State.reset.busy = false ∧ busy.busy = true := by decide

theorem test_witness_DigestReadsShowTheHashState :
    busy.busy = true ∧ ((idle .failed 0).busy = false ∧ (idle .failed 0).lifeState = .failed) ∧
    (State.reset.busy = false ∧ State.reset.lifeState ≠ .failed) := by decide

theorem test_witness_HexReadsShowTheDigestCharacters :
    busy.busy = true ∧ State.reset.busy = false ∧
    ∃ f : Nat → Nat, ∀ k, f k = if State.reset.lifeState = .failed then 0 else hexNumber State.reset.h k :=
  ⟨rfl, rfl, _, fun _ => rfl⟩

theorem test_witness_HexTextIsLowercaseHexadecimal :
    Instr.rdHex9 ∈ [Instr.rdHex0, .rdHex1, .rdHex2, .rdHex3, .rdHex4, .rdHex5, .rdHex6, .rdHex7, .rdHex8, .rdHex9] ∧
    (∃ s' v, State.reset.busy = false ∧ State.reset.lifeState ≠ .failed ∧ exec .rdHex9 State.reset = .next s' ∧
      s'.resp = some (.readOk v)) ∧
    (∃ s' v, (idle .failed 0).busy = false ∧ (idle .failed 0).lifeState = .failed ∧
      exec .rdHex9 (idle .failed 0) = .next s' ∧ s'.resp = some (.readOk v)) :=
  ⟨by decide, ⟨_, _, rfl, by decide, rfl, rfl⟩, ⟨_, _, rfl, rfl, rfl, rfl⟩⟩

theorem test_witness_DataWriteThenReadReturnsTheWord : (15 : Fin 16) ≠ 0 := by decide

theorem test_witness_NoReadHasASideEffect :
    (encode State.reset.base .rdHex9).dir = .read ∧ (encode State.reset.base .rdCtrl).dir = .read ∧
    State.reset.busy = false := by decide

theorem test_witness_NoInstructionButInitWritesTheHashState :
    ∃ s s' : State, exec .init s = .next s' ∧ s'.h ≠ s.h :=
  ⟨{ State.reset with h := Vector.replicate 5 0 }, _, rfl, by decide⟩

theorem test_witness_OnlyDataWritesAndResetChangeTheBlockBuffer :
    ∃ s s' : State, step s = .next s' ∧ s.resetLine = false ∧ mover s ≠ .assertReset ∧ s'.data ≠ s.data :=
  ⟨about (writeAt 0 0x7C 1), _, rfl, rfl, by decide, by decide⟩

theorem test_witness_OverrunIsStickyUntilInitOrReset :
    (∃ s', exec .compress busy = .next s' ∧ s'.ovr ≠ busy.ovr) ∧
    (busy.busy = true ∧ IsCtrlWrite (.wrCtrl 0)) ∧
    (State.reset.busy = false ∧ IsInit .init ∧ IsInit (.wrCtrl 0x00000001)) ∧
    (∃ s', step { State.reset with turns := [.engine] } = .next s' ∧ State.reset.resetLine = false ∧
      mover { State.reset with turns := [.engine] } = .engine) ∧
    mover { State.reset with turns := [.assertReset] } = .assertReset :=
  ⟨⟨_, rfl, by decide⟩, ⟨rfl, .inr (.inr (.inr ⟨_, rfl⟩))⟩, ⟨rfl, .inl rfl, .inr rfl⟩, ⟨_, rfl, rfl, rfl⟩, rfl⟩

theorem test_witness_ResultIsWrittenOnlyByDecodedCommands :
    (∃ s', exec .init busy = .next s' ∧ busy.busy = true) ∧
    (∃ s', exec .rdStatus State.reset = .next s' ∧ ¬ IsCtrlWrite .rdStatus) ∧
    (State.reset.busy = false ∧ IsCtrlWrite (.wrCtrl 0)) ∧
    (∃ s', step { State.reset with turns := [.engine] } = .next s' ∧ State.reset.resetLine = false ∧
      mover { State.reset with turns := [.engine] } = .engine) :=
  ⟨⟨_, rfl, rfl⟩, ⟨_, rfl, by simp [IsCtrlWrite]⟩, ⟨rfl, .inr (.inr (.inr ⟨_, rfl⟩))⟩, ⟨_, rfl, rfl, rfl⟩⟩

theorem test_witness_HostCannotDisturbAJobInFlight :
    ∃ s s' : State, s.busy = true ∧ s.resetLine = false ∧ mover s = .host ∧ step s = .next s' ∧ s.pending ≠ [] :=
  ⟨busy.placeAccess (writeAt 0 0 0x00000001), _, rfl, rfl, rfl, rfl, by decide⟩

theorem test_witness_OnlyInitAndResetLeaveFailed :
    (idle .failed 0).Inv ∧ (idle .failed 0).lifeState = .failed ∧
    ∃ s', step ((idle .failed 0).placeAccess (writeAt 0 0 0x00000001)) = .next s' ∧ s'.lifeState ≠ .failed :=
  ⟨failed_meets_the_invariant, rfl, _, rfl, by decide⟩

theorem test_witness_CompletionStepCompressesTheLatchedBlocks :
    ∃ jb, busy.job = some jb ∧ busy.resetLine = false ∧ mover busy = .engine := ⟨_, rfl, rfl, rfl⟩

theorem test_witness_CompletedCompressHasCompressedTheBlock :
    (idle .absorbing 0x2000000000000000).busy = false ∧ InputAllowed (idle .absorbing 0x2000000000000000) ∧ InputAllowed State.reset :=
  ⟨rfl, .inr rfl, .inl rfl⟩

/-- The two clauses of the conclusion, at 55 and 56 bytes. -/
theorem test_witness_CompletedFinalizeHasHashedThePaddedTail :
    State.reset.busy = false ∧ InputAllowed State.reset ∧ (55#7).toNat ≤ 63 ∧ (56#7).toNat ≤ 63 ∧
    State.reset.len.toNat + (56#7).toNat < 2 ^ 61 := ⟨rfl, .inl rfl, by decide, by decide, by decide +kernel⟩

theorem test_witness_RoundShiftsTheWorkingVariables :
    ({ State.reset with t := 0 } : State).t.toNat < 80 ∧ ({ State.reset with t := 79 } : State).t.toNat < 80 := by decide

theorem test_witness_StepOutsideTheRangeIsAFault :
    80 ≤ 80 ∧ 80 ≤ ({ State.reset with t := 80 } : State).t.toNat ∧ (0 ≠ 1 ∧ 0 ≠ 5 ∧ 0 ≠ 30) := by decide

theorem test_witness_RotationMovesEachBit : (30 = 1 ∨ 30 = 5 ∨ 30 = 30) ∧ 31 < 32 := by decide

theorem test_witness_ChooseParityMajorityBitByBit : 0 < 32 ∧ 31 < 32 := by decide

theorem test_witness_RoundConstantAndFunctionByClass :
    (0 ≤ 19 ∧ 19 ≤ 19) ∧ (20 ≤ 39 ∧ 39 ≤ 39) ∧ (40 ≤ 59 ∧ 59 ≤ 59) ∧ (60 ≤ 79 ∧ 79 ≤ 79) := by decide

theorem test_witness_ScheduleFollowsTheRecurrence : (0 < 16 ∧ 15 < 16) ∧ (16 ≤ 16 ∧ 79 < 80) := by decide

/-- Two instances of a platform draw their free words by different bases. -/
theorem test_busy_read_draws_by_base_and_count :
    exec .rdLenLo { busy with base := 0x100, draws := 7 } =
      .next { busy with base := 0x100, draws := 8, resp := some (.readOk (Config.freeReadWord 0x100 7)) } := rfl

theorem test_witness_SixteenWordWindowGivesTheSameSchedule : 0 < 64 ∧ 63 < 64 := by decide

theorem test_witness_ExpanderIsLinearOverXor : 0 < 80 ∧ 79 < 80 := by decide

/-- Tails of 55 and 63 bytes, and a length either side of the limit. -/
theorem test_witness_PaddingFillsOneOrTwoBlocks :
    (List.replicate 55 0#8).length ≤ 63 ∧ (List.replicate 63 0#8).length ≤ 63 ∧ (63 + 1 + 56) % 64 = 56 ∧
    2 ^ 61 - 1 < 2 ^ 61 ∧ 2 ^ 61 ≤ 2 ^ 61 := by decide +kernel

/-- The four clauses at the tail of one byte: positions 0, 1, 55 and 56 (and 63) of its one block. -/
theorem test_witness_PaddedBlocksHoldTailMarkerAndLength :
    [0x61#8].length ≤ 63 ∧ (∃ blocks, pad [0x61#8] 1 = some blocks ∧ 63 < 64 * blocks.length ∧
      [0x61#8][0]? = some 0x61#8 ∧ 1 = [0x61#8].length ∧ ([0x61#8].length < 55 ∧ 55 < 64 * blocks.length - 8) ∧
      64 * blocks.length - 8 ≤ 56) := ⟨by decide, _, rfl, by decide, rfl, rfl, by decide, by decide⟩

theorem test_witness_FinalizeIgnoresBytesBeyondTheTail :
    (∀ p : Fin 64, p.val < (3#7).toNat → dataByte (block [0x61626300]) p = dataByte (block [0x616263FF, 7]) p) ∧
    (∃ s₁, exec (.finalize 3) { State.reset with data := block [0x61626300] } = .next s₁) ∧
    ∃ s₂, exec (.finalize 3) { State.reset with data := block [0x616263FF, 7] } = .next s₂ :=
  ⟨by decide +kernel, ⟨_, rfl⟩, ⟨_, rfl⟩⟩

/-- The empty message, and one of a whole block and a tail of 3 bytes with other bytes of DATA after it. -/
theorem test_witness_CompressedBlocksAreThePaddedMessage :
    (State.reset.busy = false ∧ State.reset.lifeState = .created ∧ State.reset.h = iv ∧ State.reset.len = 0) ∧
    (([] : List Byte).length < 2 ^ 61 ∧ (0#7).toNat = ([] : List Byte).length % 64) ∧
    ((List.replicate 67 0x61#8).length < 2 ^ 61 ∧ (3#7).toNat = (List.replicate 67 0x61#8).length % 64 ∧
      ∀ p : Fin 64, p.val < (3#7).toNat →
        (List.replicate 67 0x61#8)[64 * ((List.replicate 67 0x61#8).length / 64) + p.val]? =
          some (dataByte (block [0x616161FF, 7]) p)) :=
  ⟨by decide, by decide +kernel, by decide +kernel, by decide, by decide +kernel⟩

theorem test_witness_EveryStepKeepsTheInvariant : busy.Inv ∧ ∃ s', step (about (readAt 0 0)) = .next s' :=
  ⟨busy_meets_the_invariant, _, rfl⟩

/-- With no turn lined up the job completes; with an assertion of reset lined up reset comes first. -/
theorem test_witness_AcceptedJobCompletes :
    busy.Inv ∧ (∃ jb, busy.job = some jb) ∧ .assertReset ∉ busy.turns ∧
    (∃ s', step { busy with turns := [.assertReset] } = .next s' ∧ s'.AtReset) :=
  ⟨busy_meets_the_invariant, ⟨_, rfl⟩, by decide, _, rfl, rfl, rfl, rfl, rfl, rfl, rfl, rfl, rfl⟩

/-- The engine's step on `busy` stays symbolic here: that it answers is EveryStepGoesOn. -/
theorem test_witness_JobResultDependsOnlyOnHashAndBlocks :
    ∃ s₁ s₂ s₁' s₂' : State, s₁ ≠ s₂ ∧ s₁.h = s₂.h ∧ s₁.job = s₂.job ∧ engineTurn s₁ = .next s₁' ∧ engineTurn s₂ = .next s₂' :=
  ⟨State.reset, { State.reset with data := Vector.replicate 16 1 }, _, _, by decide, rfl, rfl, rfl, rfl⟩

theorem test_witness_BothInterleavingsOfASecondCommandAreAllowed :
    busy.Inv ∧ ∃ jb, busy.job = some jb ∧ jb.newState = .absorbing ∧ busy.resetLine = false ∧
      ({ busy with pending := [asm 0 .compress] } : State).pending = asm busy.base .compress :: [] :=
  ⟨busy_meets_the_invariant, _, rfl, rfl, rfl, rfl⟩

theorem test_witness_InstancesShareNothing :
    Platform.Disjoint ⟨[State.reset, { State.reset with base := 0x100 }]⟩ ∧ 0 ≠ 1 ∧
    ∃ p', Platform.stepAt 0 ⟨[State.reset, { State.reset with base := 0x100 }]⟩ = .next p' := by
  refine ⟨?_, by decide, _, rfl⟩
  simp only [Platform.Disjoint, List.pairwise_cons, List.mem_singleton, forall_eq, State.inWindow, Bool.and_eq_true,
    decide_eq_true_eq]
  refine ⟨fun addr h => ?_, by simp⟩
  have h₁ : addr < 0 + 256 := h.1.2
  have h₂ : 0x100 ≤ addr := h.2.1
  omega

end Sys2Proof.Tests
end

/-! SUPPORT. What one turn and one step can do, each said once, and the fields the engine and an instruction leave
alone. -/

namespace Sys2Proof.Machine
open Sys2Proof.Statements Host

/-- Everything a turn can do (70_reset_and_hazards R250, R252). -/
theorem takeTurn_cases {turn : Turn} {s s' : State} (h : takeTurn turn s = .next s') :
    (turn = .assertReset ∧ s' = { s.applyReset with resetLine := true }) ∨
    (turn ≠ .assertReset ∧ s.resetLine = true ∧ ∃ line, (line = true ↔ turn ≠ .releaseReset) ∧
      s' = { s.applyReset with resetLine := line }) ∨
    (turn = .releaseReset ∧ s.resetLine = false ∧ s' = s) ∨
    (turn = .engine ∧ s.resetLine = false ∧ engineTurn s = .next s') ∨
    (turn = .host ∧ s.resetLine = false ∧ hostTurn s = .next s') := by
  cases turn with
  | assertReset => exact .inl ⟨rfl, (Outcome.next.inj h).symm⟩
  | releaseReset =>
    have hs := (Outcome.next.inj h).symm
    split at hs
    next hr => exact .inr (.inl ⟨by simp, hr, false, by simp, hs⟩)
    next hr => exact .inr (.inr (.inl ⟨rfl, by simpa using hr, hs⟩))
  | engine =>
    simp only [takeTurn] at h
    split at h
    next hr => exact .inr (.inl ⟨by simp, hr, s.resetLine, by simp [hr], (Outcome.next.inj h).symm⟩)
    next hr => exact .inr (.inr (.inr (.inl ⟨rfl, by simpa using hr, h⟩)))
  | host =>
    simp only [takeTurn] at h
    split at h
    next hr => exact .inr (.inl ⟨by simp, hr, s.resetLine, by simp [hr], (Outcome.next.inj h).symm⟩)
    next hr => exact .inr (.inr (.inr (.inr ⟨rfl, by simpa using hr, h⟩)))

/-- With reset not asserted, the engine's step is the engine's turn. -/
theorem engineTurn_of_step {s s' : State} (h : step s = .next s') (hr : s.resetLine = false)
    (hm : mover s = .engine) : engineTurn { s with turns := s.turns.tail } = .next s' := by
  simpa [step_eq_takeTurn, hm, takeTurn, hr] using h

/-- The engine writes neither DATA, OVR nor RESULT (44_commands R187). -/
theorem engineTurn_frame {s s' : State} (h : engineTurn s = .next s') :
    s'.data = s.data ∧ s'.ovr = s.ovr ∧ s'.result = s.result := by
  obtain ⟨s₁, h₁, hs₁⟩ := engineTurn_cases s
  obtain rfl : s₁ = s' := Outcome.next.inj (h₁.symm.trans h)
  rcases hs₁ with ⟨_, rfl⟩ | ⟨jb, s₂, _, hsame, _, rfl⟩
  · exact ⟨rfl, rfl, rfl⟩
  · obtain ⟨hdata, hovr, hresult, _⟩ := hsame.fields
    exact ⟨hdata, hovr, hresult⟩

/-- Of all instructions only WR DATA writes DATA (10_state R25). -/
theorem exec_data_of_not_wrData {i : Instr} {s s' : State} (h : exec i s = .next s')
    (hi : ∀ k v, i ≠ .wrData k v) : s'.data = s.data := by
  rcases exec_cases h with ⟨_, _, rfl⟩ | ⟨_, _, rfl⟩ | ⟨_, _, _, r, rfl⟩ | ⟨_, _, _, _, rfl⟩ |
    ⟨_, _, _, _, jb, rfl⟩ | ⟨_, k, v, hw, _⟩ | ⟨_, _, r, d, rfl⟩
  case inr.inr.inr.inr.inr.inl => exact absurd hw (hi k v)
  all_goals rfl

/-- INIT is a CTRL write, under either spelling. -/
theorem isCtrlWrite_of_isInit {i : Instr} (h : IsInit i) : IsCtrlWrite i := by
  rcases h with rfl | rfl
  · exact .inl rfl
  · exact .inr (.inr (.inr ⟨_, rfl⟩))

/-- An instruction other than a CTRL write leaves JOB and RESULT alone. -/
theorem exec_frame_of_not_ctrlWrite {i : Instr} {s s' : State} (h : exec i s = .next s') (hi : ¬ IsCtrlWrite i) :
    s'.job = s.job ∧ s'.result = s.result := by
  rcases exec_cases h with ⟨hc, _⟩ | ⟨hc, _⟩ | ⟨hc, _⟩ | ⟨hc, _⟩ | ⟨hc, _⟩ | ⟨_, k, v, _, rfl⟩ | ⟨_, _, r, d, rfl⟩
  case inr.inl => exact absurd (isCtrlWrite_of_isInit hc) hi
  case inr.inr.inr.inr.inr.inl => exact ⟨rfl, rfl⟩
  case inr.inr.inr.inr.inr.inr => exact ⟨rfl, rfl⟩
  all_goals exact absurd hc hi

end Sys2Proof.Machine

/-! SUPPORT. The invariant, kept by each operation of an instruction, by the engine, and by reset. -/

namespace Sys2Proof.Machine
open Sys2Proof.Statements Host

/-! ### The jobs that acceptance makes are legal (10_state R37) -/

/-- Every job in flight is one that acceptance makes. -/
def State.JobsLegal (s : State) : Prop := ∀ jb, s.job = some jb → jb.Legal

/-- A tail the padder accepts is below the size limit and gives one block or two (43_padder R153, R155). -/
theorem pad_eq_some {tail : List Byte} {len : Nat} {blocks : List Block} (h : pad tail len = some blocks)
    (ht : tail.length ≤ 63) : len < Config.lenLimit ∧ (blocks.length = 1 ∨ blocks.length = 2) := by
  have hlen : len < Config.lenLimit := by
    by_contra hge
    simp [pad_of_ge tail (Nat.le_of_not_lt hge)] at h
  obtain rfl := Option.some.inj ((pad_of_lt tail hlen).symm.trans h)
  refine ⟨hlen, ?_⟩
  simp only [blocksOfBytes, List.length_map, List.length_range, paddedTail_length len ht]
  split <;> simp

/-- The length COMPRESS leaves saturates at the size limit (44_commands R178). -/
theorem lengthAfterBlock_le (s : State) : s.lengthAfterBlock.toNat ≤ Config.lenLimit := by
  simp only [State.lengthAfterBlock, BitVec.toNat_ofNat]
  exact (Nat.mod_le _ _).trans (Nat.min_le_right _ _)

theorem startJob_jobsLegal {jb : Job} (h : jb.Legal) (s : State) : (s.startJob jb).JobsLegal :=
  fun _ e => Option.some.inj e ▸ h

theorem performCompress_jobsLegal {s : State} (h : s.JobsLegal) : s.performCompress.JobsLegal := by
  rcases performCompress_cases s with ⟨_, e⟩ | ⟨_, e⟩ <;> rw [e]
  · exact startJob_jobsLegal ⟨.inl rfl, lengthAfterBlock_le s, .inl rfl, by simp⟩ s
  · exact h

theorem performFinalize_jobsLegal (n : BitVec 7) {s : State} (h : s.JobsLegal) :
    (s.performFinalize n).JobsLegal := by
  rcases performFinalize_cases n s with ⟨_, e⟩ | ⟨_, _, e⟩ | ⟨_, _, _, e⟩ | ⟨hn, _, blocks, hp, e⟩ <;> rw [e]
  case inr.inr.inr =>
    obtain ⟨hlt, hblocks⟩ := pad_eq_some hp (by rw [tailBytes_length] <;> omega)
    have hnew : (BitVec.ofNat 64 (s.totalLength n)).toNat < Config.lenLimit :=
      (Nat.mod_le _ _).trans_lt hlt
    exact startJob_jobsLegal ⟨hblocks, hnew.le, .inr rfl, fun _ => hnew⟩ s
  all_goals exact h

theorem performCommand_jobsLegal (w : Word) {s : State} (h : s.JobsLegal) : (s.performCommand w).JobsLegal := by
  unfold State.performCommand
  split
  · exact h
  · exact h
  · exact h
  · exact performCompress_jobsLegal h
  · exact performFinalize_jobsLegal _ h

theorem ctrlWrite_jobsLegal {perform : State → State} {s s' : State} (h : ctrlWrite perform s = .next s')
    (hs : s.JobsLegal) (hp : (perform s).JobsLegal) : s'.JobsLegal := by
  rcases ctrlWrite_cases h with ⟨_, rfl⟩ | ⟨_, rfl⟩
  · exact hs
  · exact hp

/-- An instruction puts no job in flight but one that acceptance makes. -/
theorem exec_jobsLegal {i : Instr} {s s' : State} (h : exec i s = .next s') (hs : s.JobsLegal) : s'.JobsLegal := by
  by_cases hi : IsCtrlWrite i
  · rcases hi with rfl | rfl | ⟨n, rfl⟩ | ⟨v, rfl⟩
    · exact ctrlWrite_jobsLegal h hs hs
    · exact ctrlWrite_jobsLegal h hs (performCompress_jobsLegal hs)
    · exact ctrlWrite_jobsLegal h hs (performFinalize_jobsLegal n hs)
    · exact ctrlWrite_jobsLegal h hs (performCommand_jobsLegal v hs)
  · intro jb e
    exact hs jb ((exec_frame_of_not_ctrlWrite h hi).1 ▸ e)

/-! ### The operations keep the invariant -/

/-- Registers at their reset values meet the invariant (10_state R41). -/
theorem State.AtReset.inv {s : State} (h : s.AtReset) (hb : s.base % Config.windowBytes = 0) : s.Inv := by
  have hr := h
  obtain ⟨hh, hlen, _, hlife, hbusy, _, _, hjob⟩ := h
  exact {
    busy_iff_job := by simp [hbusy, hjob]
    len_bound := by simp [hlen]
    job_legal := by simp [hjob]
    busy_state := by simp [hbusy]
    busy_ok := by simp [hbusy]
    created_fresh := fun _ => ⟨hh, hlen⟩
    finalized_bound := by simp [hlife]
    reset_holds := fun _ => hr
    base_aligned := hb }

section
variable {s : State}

/-- The model's own fields, BASE apart, stand outside the invariant. -/
theorem State.Inv.modelFields (hi : s.Inv) (pending : List HostOp) (turns : List Turn) (resp : Option Response)
    (draws : Nat) : { s with pending := pending, turns := turns, resp := resp, draws := draws : State }.Inv :=
  { hi with }

theorem State.Inv.respond (hi : s.Inv) (r : Response) : (s.respond r).Inv := hi.modelFields _ _ _ _

theorem State.Inv.applyReset (hi : s.Inv) (line : Bool) : { s.applyReset with resetLine := line }.Inv :=
  State.AtReset.inv (applyReset_holds s) hi.base_aligned

theorem State.Inv.dropCommand (hi : s.Inv) (hr : s.resetLine = false) : s.dropCommand.Inv :=
  { hi with reset_holds := by simp [hr] }

theorem State.Inv.writeData (hi : s.Inv) (hr : s.resetLine = false) (k : Fin 16) (v : Word) : (s.writeData k v).Inv :=
  { hi with reset_holds := by simp [hr] }

theorem State.Inv.freshHash (hi : s.Inv) (hr : s.resetLine = false) : s.freshHash.Inv :=
  { hi with
    len_bound := by simp
    busy_state := by simp
    busy_ok := by simp
    created_fresh := by simp
    finalized_bound := by simp
    reset_holds := by simp [hr] }

theorem State.Inv.raiseReject (hi : s.Inv) (hr : s.resetLine = false) (hb : s.busy = false) (code : ResultCode) :
    (s.raiseReject code).Inv :=
  { hi with
    busy_ok := by simp [hb]
    reset_holds := by simp [hr] }

theorem State.Inv.raiseOversize (hi : s.Inv) (hr : s.resetLine = false) (hb : s.busy = false) : s.raiseOversize.Inv :=
  { hi with
    busy_state := by simp [hb]
    busy_ok := by simp [hb]
    created_fresh := by simp
    finalized_bound := by simp
    reset_holds := by simp [hr] }

theorem State.Inv.startJob (hi : s.Inv) (hr : s.resetLine = false) {jb : Job} (ha : InputAllowed s)
    (hj : (s.startJob jb).JobsLegal) : (s.startJob jb).Inv :=
  { hi with
    busy_iff_job := rfl
    job_legal := hj
    busy_state := fun _ => ha
    busy_ok := fun _ => rfl
    reset_holds := by simp [hr] }

/-- The completion step of a legal job keeps the invariant, whatever H it leaves (44_commands R187). -/
theorem State.Inv.finishJob (hi : s.Inv) (hr : s.resetLine = false) {jb : Job} (hj : jb.Legal) {s₁ : State}
    (hs : s.SameOutside s₁) : ((s₁.finishJob jb).forgetPipeline).Inv := by
  obtain ⟨_, hlen, hstate, hfin⟩ := hj
  obtain ⟨_, _, _, _, hbase, _, _, hline⟩ := hs.fields
  exact {
    busy_iff_job := rfl
    len_bound := hlen
    job_legal := nofun
    busy_state := nofun
    busy_ok := nofun
    created_fresh := fun hc => by rcases hstate with h | h <;> exact nomatch h.symm.trans hc
    finalized_bound := hfin
    reset_holds := by simp [hline, hr]
    base_aligned := by simpa [hbase] using hi.base_aligned }

end

/-! ### Instructions, turns and the step keep the invariant -/

/-- With reset not asserted, an instruction keeps the invariant. -/
theorem exec_keeps_inv {i : Instr} {s s' : State} (h : exec i s = .next s') (hi : s.Inv)
    (hr : s.resetLine = false) : s'.Inv := by
  have hj : s'.JobsLegal := exec_jobsLegal h hi.job_legal
  rcases exec_cases h with ⟨_, _, rfl⟩ | ⟨_, _, rfl⟩ | ⟨_, _, hb, r, rfl⟩ | ⟨_, _, hb, _, rfl⟩ |
    ⟨_, _, _, ha, jb, rfl⟩ | ⟨_, k, v, _, rfl⟩ | ⟨_, _, r, d, rfl⟩
  · exact (hi.dropCommand hr).respond _
  · exact (hi.freshHash hr).respond _
  · exact (hi.raiseReject hr hb r).respond _
  · exact (hi.raiseOversize hr hb).respond _
  · exact (hi.startJob hr ha hj).respond _
  · exact (hi.writeData hr k v).respond _
  · exact hi.modelFields _ _ _ _

theorem takeAccess_keeps_inv {acc : Access} {s s' : State} (h : takeAccess acc s = .next s') (hi : s.Inv)
    (hr : s.resetLine = false) : s'.Inv := by
  rcases takeAccess_cases h with ⟨i, _, he⟩ | ⟨_, rfl⟩ | ⟨e, _, _, rfl⟩
  · exact exec_keeps_inv he hi hr
  · exact hi
  · exact hi.respond _

theorem hostTurn_keeps_inv {s s' : State} (h : hostTurn s = .next s') (hi : s.Inv)
    (hr : s.resetLine = false) : s'.Inv := by
  rcases hostTurn_cases h with ⟨_, rfl⟩ | ⟨acc, rest, _, ha⟩ | ⟨rest, _, _, rfl⟩ | ⟨rest, _, _, rfl⟩
  · exact hi
  · exact takeAccess_keeps_inv ha (hi.modelFields _ _ _ _) hr
  · exact hi.respond _
  · exact hi.modelFields _ _ _ _

theorem engineTurn_keeps_inv {s s' : State} (h : engineTurn s = .next s') (hi : s.Inv)
    (hr : s.resetLine = false) : s'.Inv := by
  obtain ⟨s₁, h₁, hs₁⟩ := engineTurn_cases s
  obtain rfl : s₁ = s' := Outcome.next.inj (h₁.symm.trans h)
  rcases hs₁ with ⟨_, rfl⟩ | ⟨jb, s₂, hjob, hsame, _, rfl⟩
  · exact hi
  · exact hi.finishJob hr (hi.job_legal jb hjob) hsame

theorem takeTurn_keeps_inv {turn : Turn} {s s' : State} (h : takeTurn turn s = .next s') (hi : s.Inv) : s'.Inv := by
  rcases takeTurn_cases h with ⟨_, rfl⟩ | ⟨_, _, line, _, rfl⟩ | ⟨_, _, rfl⟩ | ⟨_, hr, he⟩ | ⟨_, hr, hh⟩
  · exact hi.applyReset true
  · exact hi.applyReset line
  · exact hi
  · exact engineTurn_keeps_inv he hi hr
  · exact hostTurn_keeps_inv hh hi hr

theorem step_keeps_inv {s s' : State} (h : step s = .next s') (hi : s.Inv) : s'.Inv := by
  rw [step_eq_takeTurn] at h
  exact takeTurn_keeps_inv h (hi.modelFields _ _ _ _)

end Sys2Proof.Machine

/-! SUPPORT. The statements about the state (10_state). -/

namespace Sys2Proof.Proofs
open Sys2Proof.Machine Sys2Proof.Statements Host

/-! ### The invariant -/

/-- Settles O55: the mover's turn keeps the invariant, whichever agent moves. -/
theorem everyStepKeepsTheInvariant : Obligations.EveryStepKeepsTheInvariant :=
  fun _ _ hi h => step_keeps_inv h hi

/-- Settles O54: the reset state is at the reset values. -/
theorem resetStateMeetsTheInvariant : Obligations.ResetStateMeetsTheInvariant :=
  State.AtReset.inv ⟨rfl, rfl, rfl, rfl, rfl, rfl, rfl, rfl⟩ rfl

/-! ### Who writes H, DATA, OVR and RESULT -/

/-- Settles O31, by the cases of an instruction: only INIT's leaves another H. -/
theorem noInstructionButInitWritesTheHashState : Obligations.NoInstructionButInitWritesTheHashState := by
  intro i s s' h hne
  rcases exec_cases h with ⟨_, _, rfl⟩ | ⟨hinit, hb, rfl⟩ | ⟨_, _, _, r, rfl⟩ | ⟨_, _, _, _, rfl⟩ |
    ⟨_, _, _, _, jb, rfl⟩ | ⟨_, k, v, _, rfl⟩ | ⟨_, _, r, d, rfl⟩
  case inr.inl => exact ⟨hinit, hb, rfl⟩
  all_goals exact absurd rfl hne

/-- The host's turn changes DATA by a WR DATA alone. -/
theorem hostTurn_changes_data {s s' : State} (h : hostTurn s = .next s') (hne : s'.data ≠ s.data) :
    ∃ acc rest i v, s.pending = .access acc :: rest ∧ decode s.base acc = .ok (.wrData i v) := by
  rcases hostTurn_cases h with ⟨_, rfl⟩ | ⟨acc, rest, hp, ha⟩ | ⟨rest, _, _, rfl⟩ | ⟨rest, _, _, rfl⟩
  case inr.inl =>
    rcases takeAccess_cases ha with ⟨i, hd, he⟩ | ⟨_, rfl⟩ | ⟨e, _, _, rfl⟩
    · by_contra hno
      have hdata := exec_data_of_not_wrData he fun k v hi => hno ⟨acc, rest, k, v, hp, hi ▸ hd⟩
      exact hne hdata
    all_goals exact absurd rfl hne
  all_goals exact absurd rfl hne

/-- Settles O32, by the cases of a turn: the engine's and an idle release leave DATA alone. -/
theorem onlyDataWritesAndResetChangeTheBlockBuffer : Obligations.OnlyDataWritesAndResetChangeTheBlockBuffer := by
  intro s s' h hr hm hne
  rw [step_eq_takeTurn] at h
  rcases takeTurn_cases h with ⟨ht, _⟩ | ⟨_, hr', _⟩ | ⟨_, _, rfl⟩ | ⟨_, _, he⟩ | ⟨ht, _, hh⟩
  · exact absurd ht hm
  · exact absurd (hr.symm.trans hr') (by simp)
  · exact absurd rfl hne
  · exact absurd (engineTurn_frame he).1 hne
  · have hwrite := hostTurn_changes_data hh hne
    exact ⟨ht, hwrite⟩

/-- An instruction that changes OVR sets it, as a CTRL write while busy, or clears it, as INIT when not busy. -/
theorem exec_changes_ovr {i : Instr} {s s' : State} (h : exec i s = .next s') (hne : s'.ovr ≠ s.ovr) :
    (s'.ovr = true ∧ s.busy = true ∧ IsCtrlWrite i) ∨ (s'.ovr = false ∧ s.busy = false ∧ IsInit i) := by
  rcases exec_cases h with ⟨hc, hb, rfl⟩ | ⟨hinit, hb, rfl⟩ | ⟨_, _, _, r, rfl⟩ | ⟨_, _, _, _, rfl⟩ |
    ⟨_, _, _, _, jb, rfl⟩ | ⟨_, k, v, _, rfl⟩ | ⟨_, _, r, d, rfl⟩
  case inl => exact .inl ⟨rfl, hb, hc⟩
  case inr.inl => exact .inr ⟨rfl, hb, hinit⟩
  all_goals exact absurd rfl hne

/-- A CTRL write while busy is dropped, whatever it would perform (44_commands R171). -/
theorem exec_ctrlWrite_of_busy {i : Instr} {s : State} (hb : s.busy = true) (hc : IsCtrlWrite i) :
    exec i s = .next (s.dropCommand.respond .writeOk) := by
  rcases hc with rfl | rfl | ⟨n, rfl⟩ | ⟨v, rfl⟩ <;> exact ctrlWrite_of_busy hb

/-- INIT when not busy, under either spelling (44_commands R172). -/
theorem exec_init_of_idle {i : Instr} {s : State} (hb : s.busy = false) (hi : IsInit i) :
    exec i s = .next (s.freshHash.respond .writeOk) := by
  rcases hi with rfl | rfl <;> exact ctrlWrite_of_idle hb

/-- Settles O33: the cases of an instruction, and the frame of the engine's turn. -/
theorem overrunIsStickyUntilInitOrReset : Obligations.OverrunIsStickyUntilInitOrReset := by
  refine ⟨fun i s s' => exec_changes_ovr, fun i s hb hc => ⟨_, exec_ctrlWrite_of_busy hb hc, rfl⟩,
    fun i s hb hi => ⟨_, exec_init_of_idle hb hi, rfl⟩, fun s s' h hr hm => ?_, fun s hm => ?_⟩
  · exact (engineTurn_frame (engineTurn_of_step h hr hm)).2.1
  · rw [step_eq_takeTurn, hm]
    exact ⟨_, rfl, rfl⟩

/-- An instruction while busy leaves RESULT alone. -/
theorem exec_result_of_busy {i : Instr} {s s' : State} (h : exec i s = .next s') (hb : s.busy = true) :
    s'.result = s.result := by
  by_cases hc : IsCtrlWrite i
  · rw [exec_ctrlWrite_of_busy hb hc] at h
    exact Outcome.next.inj h ▸ rfl
  · exact (exec_frame_of_not_ctrlWrite h hc).2

section
variable (s : State) (r : ResultCode)

theorem performCompress_forgets_result :
    { s with result := r }.performCompress = s.performCompress := by
  unfold State.performCompress
  split <;> rfl

theorem performFinalize_forgets_result (n : BitVec 7) :
    { s with result := r }.performFinalize n = s.performFinalize n := by
  unfold State.performFinalize
  split
  · rfl
  · split
    · simp only [State.totalLength]
      split <;> rfl
    · rfl

theorem performCommand_forgets_result (w : Word) :
    { s with result := r }.performCommand w = s.performCommand w := by
  unfold State.performCommand
  split
  · rfl
  · rfl
  · rfl
  · exact performCompress_forgets_result s r
  · exact performFinalize_forgets_result s r _

end

theorem ctrlWrite_forgets_result {perform : State → State} {s : State} {r : ResultCode} (hb : s.busy = false)
    (hp : perform { s with result := r } = perform s) :
    ctrlWrite perform { s with result := r } = ctrlWrite perform s := by
  rw [ctrlWrite_of_idle hb, ctrlWrite_of_idle (s := { s with result := r }) hb, hp]

/-- A CTRL write when not busy writes RESULT: its effect does not depend on the RESULT before (10_state R32). -/
theorem exec_ctrlWrite_forgets_result {i : Instr} {s : State} (r : ResultCode) (hb : s.busy = false)
    (hc : IsCtrlWrite i) : exec i { s with result := r } = exec i s := by
  rcases hc with rfl | rfl | ⟨n, rfl⟩ | ⟨v, rfl⟩
  · exact ctrlWrite_forgets_result hb rfl
  · exact ctrlWrite_forgets_result hb (performCompress_forgets_result s r)
  · exact ctrlWrite_forgets_result hb (performFinalize_forgets_result s r n)
  · exact ctrlWrite_forgets_result hb (performCommand_forgets_result s r v)

/-- Settles O34: a CTRL write when not busy forgets the RESULT before; the other cases leave it alone. -/
theorem resultIsWrittenOnlyByDecodedCommands : Obligations.ResultIsWrittenOnlyByDecodedCommands := by
  refine ⟨fun i s s' h hcase => ?_, fun i s r hb hc => ?_, fun s s' h hr hm => ?_⟩
  · rcases hcase with hb | hc
    · exact exec_result_of_busy h hb
    · exact (exec_frame_of_not_ctrlWrite h hc).2
  · obtain ⟨s', h⟩ := exec_goes_on i s
    exact ⟨s', s', h, (exec_ctrlWrite_forgets_result r hb hc).trans h, rfl⟩
  · exact (engineTurn_frame (engineTurn_of_step h hr hm)).2.2

/-! ### Reset values and the packing of DATA -/

/-- STATUS reads 0 right after reset (10_state R41). -/
theorem reset_statusWord : State.reset.statusWord = 0x00000000 := by decide

/-- Settles O1, field by field. -/
theorem resetStateHoldsResetValues : Obligations.ResetStateHoldsResetValues := by
  refine ⟨rfl, rfl, fun i => ?_, rfl, rfl, rfl, rfl, rfl, rfl, ?_⟩
  · exact Vector.getElem_replicate i.isLt
  · exact congrArg (fun v => Outcome.next (State.reset.respond (.readOk v))) reset_statusWord

/-- Settles O52: the byte's word and place are the quotient and the remainder of its number by 4. -/
theorem dataPacksMessageBytesBigEndian : Obligations.DataPacksMessageBytesBigEndian := by
  intro data i k
  have hword : (4 * i.val + k.val) / 4 = i.val := by omega
  have hplace : (4 * i.val + k.val) % 4 = k.val := by omega
  simp only [dataByte, hword, hplace, Fin.getElem_fin, BitVec.extractLsb'_toNat, Nat.shiftRight_eq_div_pow]

end Sys2Proof.Proofs

/-! SUPPORT. Which accesses decode, and what an access does on the host's turn, each said once (20_memory). -/

namespace Sys2Proof.Machine
open Sys2Proof.Statements Host

/-! ### The decoder -/

/-- The offsets a register stands at, the alignment apart (20_memory R60, R65). -/
def MappedOffset (off : Nat) : Prop := off ≤ 0x20 ∨ (0x40 ≤ off ∧ off ≤ 0x7C) ∨ (0x80 ≤ off ∧ off ≤ 0xA4)

/-- An access decodes to `i` exactly when it is an aligned word in the window whose descriptor's row gives `i`. -/
theorem decode_eq_ok_iff {base : Nat} {acc : Access} {i : Instr} :
    decode base acc = .ok i ↔ (base ≤ acc.addr ∧ acc.addr < base + Config.windowBytes) ∧ acc.width = .w32 ∧
      (acc.addr - base) % 4 = 0 ∧
      decodeDescriptor (descriptorOf acc.dir (BitVec.ofNat 8 (acc.addr - base))) acc.data = some i := by
  unfold decode
  split_ifs with hwin hwidth halign
  · simp only [false_iff]; omega
  · simp [hwidth]
  · simp [halign]
  · have hin : base ≤ acc.addr ∧ acc.addr < base + Config.windowBytes := by omega
    simp only [ne_eq, not_not] at hwidth halign
    split <;> simp_all

theorem decode_eq_outsideWindow_iff {base : Nat} {acc : Access} :
    decode base acc = .error .outsideWindow ↔ acc.addr < base ∨ base + Config.windowBytes ≤ acc.addr := by
  unfold decode
  split_ifs with hwin
  · simp [hwin]
  · simp [hwin]
  · simp [hwin]
  · split <;> simp [hwin]

/-- A descriptor stands for an instruction exactly when a row of the table has it, whatever the data word is. -/
theorem exists_decodeDescriptor_eq_some_iff (d : BitVec 9) (v : Word) :
    (∃ i, decodeDescriptor d v = some i) ↔ busRows.any (·.hits d) = true := by
  simp [decodeDescriptor, ← Option.isSome_iff_exists]

/-- The rows of the table, read off: a row has the descriptor of window word `k` exactly when offset `4 * k` is mapped. -/
theorem busRows_any_hits_iff (dir : Dir) : ∀ k : Fin 64,
    busRows.any (·.hits (descriptorOf dir (BitVec.ofNat 8 (4 * k.val)))) = true ↔ MappedOffset (4 * k.val) := by
  unfold MappedOffset
  cases dir <;> decide

/-- An aligned offset has a register exactly when it is mapped, in either direction (20_memory R65, R66). -/
theorem exists_decodeDescriptor_iff_mapped (dir : Dir) (v : Word) {off : Nat} (h : off < 256) (h4 : off % 4 = 0) :
    (∃ i, decodeDescriptor (descriptorOf dir (BitVec.ofNat 8 off)) v = some i) ↔ MappedOffset off := by
  obtain ⟨k, rfl⟩ := Nat.dvd_of_mod_eq_zero h4
  rw [exists_decodeDescriptor_eq_some_iff]
  exact busRows_any_hits_iff dir ⟨k, by omega⟩

/-- Which accesses in the window decode. -/
theorem exists_decode_eq_ok_iff (base : Nat) {off : Nat} (dir : Dir) (width : Width) (v : Word) (h : off < 256) :
    (∃ i, decode base ⟨dir, width, base + off, v⟩ = .ok i) ↔ width = .w32 ∧ off % 4 = 0 ∧ MappedOffset off := by
  have hin : base ≤ base + off ∧ base + off < base + Config.windowBytes := by
    simp only [Config.windowBytes]; omega
  simp only [decode_eq_ok_iff, hin, true_and, Nat.add_sub_cancel_left, exists_and_left]
  refine and_congr_right fun _ => and_congr_right fun h4 => ?_
  exact exists_decodeDescriptor_iff_mapped dir v h h4

/-- A bad access inside the window is a decoding error, and not for its address. -/
theorem exists_decode_error_of_bad_access {base off : Nat} {acc : Access} (ha : acc.addr = base + off) (h : off < 256)
    (hbad : acc.width ≠ .w32 ∨ off % 4 ≠ 0 ∨ (0x24 ≤ off ∧ off ≤ 0x3C) ∨ 0xA8 ≤ off) :
    ∃ e, decode base acc = .error e ∧ e ≠ .outsideWindow := by
  obtain ⟨dir, width, addr, v⟩ := acc
  obtain rfl : addr = base + off := ha
  cases hd : decode base ⟨dir, width, base + off, v⟩ with
  | ok i =>
    obtain ⟨hw, h4, hmapped⟩ := (exists_decode_eq_ok_iff base dir width v h).1 ⟨i, hd⟩
    unfold MappedOffset at hmapped
    rcases hbad with hw' | hoff
    · exact absurd hw hw'
    · omega
  | error e =>
    refine ⟨e, rfl, ?_⟩
    rintro rfl
    have hout := decode_eq_outsideWindow_iff.1 hd
    simp only [Config.windowBytes] at hout
    omega

/-! ### An access on the host's turn -/

theorem takeAccess_of_decode_ok {acc : Access} {s : State} {i : Instr} (h : decode s.base acc = .ok i) :
    takeAccess acc s = exec i s := by
  simp only [takeAccess, h]

theorem takeAccess_of_outsideWindow {acc : Access} {s : State} (h : decode s.base acc = .error .outsideWindow) :
    takeAccess acc s = .next s := by
  simp only [takeAccess, h]

theorem takeAccess_of_busError {acc : Access} {s : State} {e : DecodeError} (h : decode s.base acc = .error e)
    (he : e ≠ .outsideWindow) : takeAccess acc s = .next (s.raiseBusError acc.dir) := by
  cases e with
  | outsideWindow => exact absurd rfl he
  | badWidth | misaligned | unmapped => simp only [takeAccess, h]

theorem mover_of_turns {s : State} {turn : Turn} {ts : List Turn} (h : s.turns = turn :: ts) : mover s = turn := by
  simp [mover, h]

/-- With no turn lined up and no job in flight the host moves (log 11). -/
theorem mover_of_noTurns_noJob {s : State} (ht : s.turns = []) (hj : s.job = none) : mover s = .host := by
  simp [mover, ht, State.defaultTurn, hj]

/-- The host's step with an access pending: the access is taken from the queue, and the turn is passed (20_memory R70). -/
theorem step_of_host_access {s : State} {ts : List Turn} {acc : Access} {rest : List HostOp}
    (hr : s.resetLine = false) (hm : mover s = .host) (ht : s.turns.tail = ts)
    (hp : s.pending = .access acc :: rest) :
    step s = takeAccess acc { s with turns := ts, pending := rest } := by
  rw [step_eq_takeTurn, hm, ht]
  simp only [takeTurn, hr, hostTurn, hp, Bool.false_eq_true, if_false]

/-! ### Reads -/

/-- A read returns a view of the state that does not look at the last response, at all times or when not busy. -/
theorem exec_of_read {base : Nat} {i : Instr} (h : (encode base i).dir = .read) :
    ∃ view : State → Word, (∀ s r, view { s with resp := r } = view s) ∧
      ((∀ s, exec i s = readExact (view s) s) ∨ (∀ s, exec i s = readWhenIdle (view s) s)) := by
  cases i
  case rdCtrl | rdStatus | rdData => exact ⟨_, fun _ _ => rfl, .inl fun _ => rfl⟩
  case rdLenLo | rdLenHi | rdDigest0 | rdDigest1 | rdDigest2 | rdDigest3 | rdDigest4 | rdHex0 | rdHex1 | rdHex2 |
      rdHex3 | rdHex4 | rdHex5 | rdHex6 | rdHex7 | rdHex8 | rdHex9 =>
    exact ⟨_, fun _ _ => rfl, .inr fun _ => rfl⟩
  all_goals exact nomatch h

end Sys2Proof.Machine

/-! SUPPORT. The statements about the host port and its accesses (20_memory). -/

namespace Sys2Proof.Proofs
open Sys2Proof.Machine Sys2Proof.Statements Host

/-! ### Which accesses decode -/

/-- Settles O8: the checks of the decoder, and the rows of the table read off. -/
theorem exactlyTheMappedAlignedWordsDecode : Obligations.ExactlyTheMappedAlignedWordsDecode :=
  fun base _ dir width v h => exists_decode_eq_ok_iff base dir width v h

/-! ### The host's turn -/

/-- Settles O10: the host moves in both cases, and the access it takes decodes. -/
theorem stepRunsTheDecodedInstruction : Obligations.StepRunsTheDecodedInstruction := by
  intro s acc rest i hr hp hd
  have hstep (ts : List Turn) (hm : mover s = .host) (ht : s.turns.tail = ts) :
      step s = exec i { s with turns := ts, pending := rest } :=
    (step_of_host_access hr hm ht hp).trans (takeAccess_of_decode_ok hd)
  refine ⟨fun ts ht => ?_, fun ht hj => ?_⟩
  · exact hstep ts (mover_of_turns ht) (congrArg List.tail ht)
  · exact hstep s.turns (mover_of_noTurns_noJob ht hj) (by simp [ht])

/-- Settles O11: the bad access decodes to no instruction, and its error response depends on the direction alone. -/
theorem badAccessIsABusErrorWithoutEffect : Obligations.BadAccessIsABusErrorWithoutEffect := by
  intro s ts acc rest off hr ht hp ha h hbad
  obtain ⟨e, hd, he⟩ := exists_decode_error_of_bad_access ha h hbad
  have hstep : step s = .next (State.raiseBusError acc.dir { s with turns := ts, pending := rest }) :=
    (step_of_host_access hr (mover_of_turns ht) (congrArg List.tail ht) hp).trans (takeAccess_of_busError hd he)
  refine ⟨fun hdir => ?_, fun hdir => ?_⟩
  · rw [hstep, hdir]; rfl
  · rw [hstep, hdir]; rfl

/-- Settles O12: the decoder looks at the address first. -/
theorem accessOutsideTheWindowDoesNotReachTheEngine : Obligations.AccessOutsideTheWindowDoesNotReachTheEngine := by
  intro s ts acc rest hr ht hp hout
  have hd : decode s.base acc = .error .outsideWindow := decode_eq_outsideWindow_iff.2 hout
  exact (step_of_host_access hr (mover_of_turns ht) (congrArg List.tail ht) hp).trans
    (takeAccess_of_outsideWindow hd)

/-! ### Reads, and writes to read-only registers -/

/-- Settles O30: a read returns its view, or while busy a free word. -/
theorem noReadHasASideEffect : Obligations.NoReadHasASideEffect := by
  intro s i hdir
  obtain ⟨view, hview, hexact | hidle⟩ := exec_of_read hdir
  · refine ⟨view s, s.draws, hexact s, fun _ => ⟨rfl, fun r => ?_⟩⟩
    rw [hexact, hview]
    rfl
  · rcases Bool.eq_false_or_eq_true s.busy with hb | hb
    · exact ⟨_, _, (hidle s).trans (readWhenIdle_of_busy hb), by simp [hb]⟩
    · refine ⟨view s, s.draws, (hidle s).trans (readWhenIdle_of_idle hb), fun _ => ⟨rfl, fun r => ?_⟩⟩
      rw [hidle, hview]
      exact readWhenIdle_of_idle hb

/-- Settles O28: the meaning of each of these writes is the ignored write. -/
theorem readOnlyRegistersIgnoreWritesAndCtrlReadsZero :
    Obligations.ReadOnlyRegistersIgnoreWritesAndCtrlReadsZero := by
  intro s v
  have hignored : writeIgnored v s = .next { s with resp := some .writeOk } := rfl
  refine ⟨rfl, ?_⟩
  and_intros <;> exact hignored

end Sys2Proof.Proofs

/-! SUPPORT. The two directions of the encoding, each said once: the command words, the BUS rows, the table words
(30_encoding). -/

namespace Sys2Proof.Machine
open Sys2Proof.Statements Host

/-! ### Command words -/

section
variable (w : Word) (n : BitVec 7)

theorem decodeCmd_eq_compress_iff : decodeCmd w = .compress ↔ w = 0x00004002 := by
  have hop : opOf w = w.toNat % 16 := rfl
  have hnb : nbytesOf w = w.toNat / 2 ^ 8 % 128 := rfl
  rw [decodeCmd_eq, ← BitVec.toNat_inj]
  split_ifs <;> simp <;> omega

theorem decodeCmd_eq_finalize_iff :
    decodeCmd w = .finalize n ↔ n.toNat ≤ 63 ∧ w.toNat = 0x00000003 + n.toNat * 2 ^ 8 := by
  have hop : opOf w = w.toNat % 16 := rfl
  have hnb : nbytesOf w = w.toNat / 2 ^ 8 % 128 := rfl
  rw [decodeCmd_eq]
  split_ifs <;> simp [← BitVec.toNat_inj] <;> omega

theorem decodeCmd_eq_illegal_iff : decodeCmd w = .illegal ↔ IllegalWord w := by
  rw [decodeCmd_eq, IllegalWord]
  split_ifs <;> simp <;> omega

theorem decodeCmd_eq_malformed_iff : decodeCmd w = .malformed ↔ MalformedWord w := by
  rw [decodeCmd_eq, MalformedWord, IllegalWord]
  split_ifs <;> simp <;> omega

theorem finalizeWord_toNat : (finalizeWord n).toNat = 0x00000003 + n.toNat * 2 ^ 8 := by
  have := n.isLt
  simp [finalizeWord, Nat.shiftLeft_eq]
  omega

theorem decodeCmd_eq_finalize_iff_finalizeWord :
    decodeCmd w = .finalize n ↔ n.toNat ≤ 63 ∧ w = finalizeWord n := by
  rw [decodeCmd_eq_finalize_iff, ← finalizeWord_toNat, BitVec.toNat_inj]

/-- The mask of FINALIZE keeps all bits but those of the tail length, 13:8 (30_encoding R85). -/
theorem fields_of_finalizeMask {w : Word} (h : w &&& 0xFFFFC0FF = 0x00000003) :
    w.toNat % 2 ^ 8 = 0x03 ∧ w.toNat / 2 ^ 14 = 0 := by
  have hfield (start len : Nat) (hmask : BitVec.extractLsb' start len (0xFFFFC0FF : Word) = BitVec.allOnes len) :
      (w.extractLsb' start len).toNat = (BitVec.extractLsb' start len (0x00000003 : Word)).toNat := by
    rw [← h, BitVec.extractLsb'_and, hmask, BitVec.and_allOnes]
  have hlow : (w.extractLsb' 0 8).toNat = 0x03 := hfield 0 8 rfl
  have hhigh : (w.extractLsb' 14 18).toNat = 0 := hfield 14 18 rfl
  simp only [BitVec.extractLsb'_toNat, Nat.shiftRight_eq_div_pow] at hlow hhigh
  have := w.isLt
  omega

/-- Of the words under the mask of FINALIZE each is FINALIZE of its bits 13:8 (30_encoding R85). -/
theorem exists_decodeCmd_eq_finalize_iff : (∃ n, decodeCmd w = .finalize n) ↔ w &&& 0xFFFFC0FF = 0x00000003 := by
  have hmask : ∀ n : BitVec 7, n.toNat ≤ 63 → finalizeWord n &&& 0xFFFFC0FF = 0x00000003 := by decide
  constructor
  · rintro ⟨n, h⟩
    obtain ⟨hn, rfl⟩ := (decodeCmd_eq_finalize_iff_finalizeWord w n).1 h
    exact hmask n hn
  · intro h
    obtain ⟨hlow, hhigh⟩ := fields_of_finalizeMask h
    refine ⟨BitVec.ofNat 7 (w.toNat / 2 ^ 8), (decodeCmd_eq_finalize_iff w _).2 ?_⟩
    rw [BitVec.toNat_ofNat]
    omega

/-! ### What a CTRL write is (30_encoding R89) -/

theorem isCommandWord_iff : isCommandWord w = true ↔
    decodeCmd w = .init ∨ decodeCmd w = .compress ∨ ∃ n, decodeCmd w = .finalize n := by
  simp [isCommandWord, decodeCmd_eq_init_iff, decodeCmd_eq_compress_iff, exists_decodeCmd_eq_finalize_iff, or_assoc]

theorem ctrlWriteInstr_of_not_isCommandWord (h : isCommandWord w = false) : ctrlWriteInstr w = .wrCtrl w := by
  have hno := (isCommandWord_iff w).not.1 (by simp [h])
  simp only [not_or, not_exists] at hno
  obtain ⟨hinit, hcompress, hfinalize⟩ := hno
  cases hd : decodeCmd w with
  | init => exact absurd hd hinit
  | compress => exact absurd hd hcompress
  | finalize n => exact absurd hd (hfinalize n)
  | illegal | malformed => simp only [ctrlWriteInstr, hd]

theorem ctrlWriteInstr_finalizeWord {n : BitVec 7} (h : n.toNat ≤ 63) :
    ctrlWriteInstr (finalizeWord n) = .finalize n := by
  simp only [ctrlWriteInstr, (decodeCmd_eq_finalize_iff_finalizeWord _ n).2 ⟨h, rfl⟩]

/-- What a CTRL write decodes to is well formed, and is the write of that word. -/
theorem ctrlWriteInstr_sound :
    (ctrlWriteInstr w).wf = true ∧ ∀ base, encode base (ctrlWriteInstr w) = writeAt base 0x00 w := by
  by_cases hw : isCommandWord w = true
  · rcases (isCommandWord_iff w).1 hw with h | h | ⟨n, h⟩
    · obtain rfl := (decodeCmd_eq_init_iff w).1 h
      exact ⟨rfl, fun _ => rfl⟩
    · obtain rfl := (decodeCmd_eq_compress_iff w).1 h
      exact ⟨rfl, fun _ => rfl⟩
    · obtain ⟨hn, rfl⟩ := (decodeCmd_eq_finalize_iff_finalizeWord w n).1 h
      rw [ctrlWriteInstr_finalizeWord hn]
      exact ⟨decide_eq_true hn, fun _ => rfl⟩
  · have hw : isCommandWord w = false := by simpa using hw
    rw [ctrlWriteInstr_of_not_isCommandWord w hw]
    exact ⟨by simp [Instr.wf, hw], fun _ => rfl⟩

end

/-! ### Decoding an encoded instruction -/

/-- An aligned 32-bit access in the window is the instruction of its descriptor. -/
theorem decode_at_of_decodeDescriptor {base off : Nat} {dir : Dir} {v : Word} {i : Instr} (h : off < 256)
    (h4 : off % 4 = 0) (hd : decodeDescriptor (descriptorOf dir (BitVec.ofNat 8 off)) v = some i) :
    decode base ⟨dir, .w32, base + off, v⟩ = .ok i := by
  rw [decode_at base off dir v h h4, hd]

/-- A write to CTRL is the command or the WR CTRL of its word. -/
theorem decode_writeAt_ctrl {base : Nat} {v : Word} {i : Instr} (h : ctrlWriteInstr v = i) :
    decode base (writeAt base 0x00 v) = .ok i :=
  decode_at_of_decodeDescriptor (by decide) (by decide) (congrArg some h)

/-- The sixteen words of DATA, read off the table. -/
theorem decodeDescriptor_rdData (k : Fin 16) (v : Word) :
    decodeDescriptor (descriptorOf .read (BitVec.ofNat 8 (0x40 + 4 * k.val))) v = some (.rdData k) := by
  fin_cases k <;> rfl

theorem decodeDescriptor_wrData (k : Fin 16) (v : Word) :
    decodeDescriptor (descriptorOf .write (BitVec.ofNat 8 (0x40 + 4 * k.val))) v = some (.wrData k v) := by
  fin_cases k <;> rfl

theorem decode_encode (base : Nat) {i : Instr} (h : i.wf = true) : decode base (encode base i) = .ok i := by
  cases i
  case finalize n => exact decode_writeAt_ctrl (ctrlWriteInstr_finalizeWord (of_decide_eq_true h))
  case wrCtrl v => exact decode_writeAt_ctrl (ctrlWriteInstr_of_not_isCommandWord v (by simpa [Instr.wf] using h))
  case rdData k => exact decode_at_of_decodeDescriptor (by omega) (by omega) (decodeDescriptor_rdData k 0)
  case wrData k v => exact decode_at_of_decodeDescriptor (by omega) (by omega) (decodeDescriptor_wrData k v)
  -- The other descriptors are literals: the row is found by evaluation.
  all_goals exact decode_at_of_decodeDescriptor (by decide) (by decide) rfl

/-! ### Encoding a decoded access -/

/-- The access of a descriptor `{DIR, OFFSET}` with its data word, of which a read carries none (30_encoding R80). -/
def descriptorAccess (base : Nat) (d : BitVec 9) (v : Word) : Access :=
  if d.msb then writeAt base (d.toNat % 256) v else readAt base (d.toNat % 256)

/-- The fields DIR and OFFSET of a descriptor (30_encoding R80). -/
theorem descriptorOf_fields (dir : Dir) : ∀ off : BitVec 8,
    (descriptorOf dir off).msb = (dir == .write) ∧ (descriptorOf dir off).toNat % 256 = off.toNat := by
  cases dir <;> decide

theorem descriptorAccess_descriptorOf (base : Nat) (dir : Dir) {off : Nat} (v : Word) (h : off < 256) :
    descriptorAccess base (descriptorOf dir (BitVec.ofNat 8 off)) v =
      ⟨dir, .w32, base + off, if dir = .write then v else 0⟩ := by
  have hoff : (BitVec.ofNat 8 off).toNat = off := Nat.mod_eq_of_lt h
  obtain ⟨hdir, hoffset⟩ := descriptorOf_fields dir (BitVec.ofNat 8 off)
  rw [descriptorAccess, hdir, hoffset, hoff]
  cases dir <;> rfl

/-- The row's instructions are well formed, and each is encoded as the access of the descriptor it stands for. -/
def RowSound (r : BusRow) : Prop :=
  ∀ d v, r.hits d = true →
    (r.instr d v).wf = true ∧ ∀ base, encode base (r.instr d v) = descriptorAccess base d v

/-- A row whose mask keeps all bits has one descriptor. -/
theorem rowSound_of_fullMask {pat : BitVec 9} {instr : BitVec 9 → Word → Instr}
    (h : ∀ v, (instr pat v).wf = true ∧ ∀ base, encode base (instr pat v) = descriptorAccess base pat v) :
    RowSound ⟨pat, 0x1FF, instr⟩ := by
  intro d v hd
  obtain rfl : d = pat := by
    have : d &&& BitVec.allOnes 9 = pat := beq_iff_eq.1 hd
    rwa [BitVec.and_allOnes] at this
  exact h v

/-- The rows of DATA: their mask leaves the index free (30_encoding R88). -/
theorem dataRows_sound : dataRows.Forall RowSound := by
  have hread : ∀ d : BitVec 9, d &&& 0x1C3 = 0x040 →
      d.msb = false ∧ d.toNat % 256 = 0x40 + 4 * (dataIndex d).val := by decide
  have hwrite : ∀ d : BitVec 9, d &&& 0x1C3 = 0x140 →
      d.msb = true ∧ d.toNat % 256 = 0x40 + 4 * (dataIndex d).val := by decide
  refine ⟨fun d v hd => ⟨rfl, fun base => ?_⟩, fun d v hd => ⟨rfl, fun base => ?_⟩⟩
  · obtain ⟨hdir, hoff⟩ := hread d (beq_iff_eq.1 hd)
    simp [descriptorAccess, hdir, hoff, encode]
  · obtain ⟨hdir, hoff⟩ := hwrite d (beq_iff_eq.1 hd)
    simp [descriptorAccess, hdir, hoff, encode]

/-- Apart from a write to CTRL and the rows of DATA, a row stands for one descriptor and one instruction. -/
theorem busRows_sound : busRows.Forall RowSound := by
  have hctrl : RowSound ⟨0x100, 0x1FF, fun _ v => ctrlWriteInstr v⟩ := rowSound_of_fullMask ctrlWriteInstr_sound
  simp only [busRows, List.forall_append]
  refine ⟨⟨⟨⟨⟨⟨hctrl, ?control⟩, ?digest⟩, dataRows_sound⟩, ?hex⟩, ?readOnly⟩, ?readOnlyHex⟩
  all_goals
    simp only [digestRows, hexRows, readOnlyRows, readOnlyHexRows, List.Forall]
    and_intros <;> exact rowSound_of_fullMask fun _ => ⟨rfl, fun _ => rfl⟩

/-- The table read backwards: the instruction of a descriptor is encoded as the access the descriptor stands for. -/
theorem decodeDescriptor_sound {d : BitVec 9} {v : Word} {i : Instr} (h : decodeDescriptor d v = some i) :
    i.wf = true ∧ ∀ base, encode base i = descriptorAccess base d v := by
  obtain ⟨r, hfind, rfl⟩ := Option.map_eq_some_iff.1 h
  have hsound : RowSound r := List.forall_iff_forall_mem.1 busRows_sound r (List.mem_of_find?_eq_some hfind)
  exact hsound d v (List.find?_some (p := fun row : BusRow => row.hits d) hfind)

theorem encode_of_decode_eq_ok {base : Nat} {acc : Access} {i : Instr} (h : decode base acc = .ok i) :
    i.wf = true ∧ encode base i = { acc with data := if acc.dir = .write then acc.data else 0 } := by
  obtain ⟨⟨hlo, hhi⟩, hwidth, -, hd⟩ := decode_eq_ok_iff.1 h
  obtain ⟨hwf, hencode⟩ := decodeDescriptor_sound hd
  have hoff : acc.addr - base < 256 := by simp only [Config.windowBytes] at hhi; omega
  rw [hencode, descriptorAccess_descriptorOf base acc.dir acc.data hoff, Nat.add_sub_cancel' hlo, ← hwidth]
  exact ⟨hwf, rfl⟩

/-! ### Table words -/

/-- The access at the same window offset, where the window is at `base` and not at 0. -/
def Access.atBase (base : Nat) (acc : Access) : Access := { acc with addr := base + acc.addr }

/-- The table numbers the offsets, not the addresses (log 8). -/
theorem tableAccess_eq_map_atBase (base nbits w : Nat) :
    tableAccess base nbits w = (tableAccess 0 nbits w).map (·.atBase base) := by
  unfold tableAccess
  split_ifs <;> simp [Access.atBase, writeAt]

theorem decode_atBase (base : Nat) (acc : Access) : decode base (acc.atBase base) = decode 0 acc := by
  simp [decode, Access.atBase]

theorem exists_tableAccess_of_decodeTableWord {nbits w : Nat} {i : Instr} (h : decodeTableWord nbits w = some i)
    (base : Nat) : ∃ acc, tableAccess base nbits w = some acc ∧ decode base acc = .ok i := by
  unfold decodeTableWord at h
  split at h
  next acc hacc =>
    split at h
    next i' hd =>
      obtain rfl := Option.some.inj h
      refine ⟨acc.atBase base, ?_, (decode_atBase base acc).trans hd⟩
      rw [tableAccess_eq_map_atBase, hacc, Option.map_some]
    next => exact nomatch h
  next => exact nomatch h

/-- An access placed on the host's turn is what the next step takes, with the state as it was but for the reset line. -/
theorem step_placeAccess (acc : Access) (s : State) :
    step (s.placeAccess acc) = takeAccess acc { s with resetLine := false } :=
  step_of_host_access rfl (mover_of_turns rfl) rfl rfl

/-! ### WAIT -/

/-- The host's turn with WAIT pending: STATUS is read, and WAIT is taken when BUSY = 0 (30_encoding R90). -/
theorem hostTurn_of_wait {s : State} {rest : List HostOp} (h : s.pending = .wait :: rest) :
    hostTurn s = .next { s with resp := some (.readOk s.statusWord)
                                pending := if s.busy then .wait :: rest else rest } := by
  have hsaw : (s.respond (.readOk s.statusWord)).sawBusy = s.busy := statusWord_bit0 s
  simp only [hostTurn, h, exec, execRdStatus, readExact, hsaw]
  split_ifs
  · rw [← h]; rfl
  · rfl

/-- With reset not asserted, the host's step is the host's turn. -/
theorem step_of_host {s : State} {ts : List Turn} (hr : s.resetLine = false) (ht : s.turns = .host :: ts) :
    step s = hostTurn { s with turns := ts } := by
  rw [step_eq_takeTurn, mover_of_turns ht, ht]
  simp only [takeTurn, hr, Bool.false_eq_true, if_false, List.tail_cons]

/-! ### Rejected words -/

/-- A rejected CTRL write when not busy writes RESULT and nothing else (44_commands R170). -/
theorem ctrlWrite_of_raiseReject {perform : State → State} {s : State} {code : ResultCode} (hb : s.busy = false)
    (hp : perform s = s.raiseReject code) :
    ctrlWrite perform s = .next { s with result := code, resp := some .writeOk } := by
  rw [ctrlWrite_of_idle hb, hp]; rfl

theorem performCommand_of_illegal {w : Word} (h : IllegalWord w) (s : State) :
    s.performCommand w = s.raiseReject .illegal := by
  simp only [State.performCommand, (decodeCmd_eq_illegal_iff w).2 h]

theorem performCommand_of_malformed {w : Word} (h : MalformedWord w) (s : State) :
    s.performCommand w = s.raiseReject .malformed := by
  simp only [State.performCommand, (decodeCmd_eq_malformed_iff w).2 h]

theorem performFinalize_of_gt {n : BitVec 7} (h : n.toNat > 63) (s : State) :
    s.performFinalize n = s.raiseReject .malformed := if_pos h

end Sys2Proof.Machine

/-! SUPPORT. The statements about the encoding (30_encoding). -/

namespace Sys2Proof.Proofs
open Sys2Proof.Machine Sys2Proof.Statements Host

/-! ### The two directions of the encoding -/

/-- Settles O6, by the cases of an instruction: its access, decoded. -/
theorem decodeOfEncodeIsTheInstruction : Obligations.DecodeOfEncodeIsTheInstruction :=
  fun base _ h => decode_encode base h

/-- Settles O7: each row of the table is encoded as the descriptors it stands for. -/
theorem encodeOfDecodeIsTheAccess : Obligations.EncodeOfDecodeIsTheAccess :=
  fun _ _ _ h => encode_of_decode_eq_ok h

/-- Settles O4: each class of the decoder, over the fields as numbers, and FINALIZE's under its mask. -/
theorem everyCommandWordDecodesAsTheEncodingSays : Obligations.EveryCommandWordDecodesAsTheEncodingSays :=
  fun w => ⟨decodeCmd_eq_init_iff w, decodeCmd_eq_compress_iff w, decodeCmd_eq_finalize_iff w,
    exists_decodeCmd_eq_finalize_iff w, decodeCmd_eq_illegal_iff w, decodeCmd_eq_malformed_iff w⟩

/-- Settles O5, by running the decoder on the eleven words. -/
theorem spelledOutWordsDecode : Obligations.SpelledOutWordsDecode := by
  unfold Obligations.SpelledOutWordsDecode
  decide

/-! ### What runs -/

/-- Settles O9: the table's access is at the window's base, decodes there alike, and is the one the step takes. -/
theorem tableWordRunsAsTheNextInstruction : Obligations.TableWordRunsAsTheNextInstruction := by
  intro nbits w i s h
  obtain ⟨acc, hacc, hd⟩ := exists_tableAccess_of_decodeTableWord h s.base
  have hplace : s.withFetchWord nbits w = s.placeAccess acc := by simp only [State.withFetchWord, hacc]
  rw [hplace, step_placeAccess]
  exact takeAccess_of_decode_ok hd

/-- Settles O13: the value is STATUS's, and bit 0 of it is BUSY. -/
theorem waitPollsUntilBusyIsZero : Obligations.WaitPollsUntilBusyIsZero := by
  intro s ts rest hr ht hp
  exact ⟨s.statusWord, rfl, (step_of_host hr ht).trans (hostTurn_of_wait hp)⟩

/-- Settles O19: the decoder's class of the word is the rejection's code; FINALIZE checks its length itself. -/
theorem undefinedWordsAreRejectedWithoutEffect : Obligations.UndefinedWordsAreRejectedWithoutEffect :=
  fun s _ hb =>
    ⟨fun h => ctrlWrite_of_raiseReject hb (performCommand_of_illegal h s),
      fun h => ctrlWrite_of_raiseReject hb (performCommand_of_malformed h s),
      fun _ hn => ctrlWrite_of_raiseReject hb (performFinalize_of_gt hn s)⟩

end Sys2Proof.Proofs

/-! SUPPORT. The word functions at every step and amount: the faults outside their ranges, the classes of steps, and
rotations and bitwise functions bit by bit (40_word_functions R100 to R110). -/

namespace Sys2Proof.Machine

/-! ### Outside the ranges (40_word_functions R101, R110) -/

theorem rotl32_of_unwired {v : Word} {n : Nat} (h : ¬(n = 1 ∨ n = 5 ∨ n = 30)) :
    rotl32 v n = .error (.unreachableRotate n) := if_neg h

theorem roundConst_of_ge {t : Nat} (h : 80 ≤ t) : roundConst t = .error (.stepOutOfRange t) :=
  dif_neg (Nat.not_lt.2 h)

theorem roundFun_of_ge {x y z : Word} {t : Nat} (h : 80 ≤ t) : roundFun x y z t = .error (.stepOutOfRange t) :=
  dif_neg (Nat.not_lt.2 h)

/-- The sum of a round stops at its first term that depends on t. -/
theorem roundTemp_of_ge {s : State} (h : 80 ≤ s.t.toNat) : s.roundTemp = .error (.stepOutOfRange s.t.toNat) := by
  have hr : rotl32 s.a 5 = .ok (rotlBits s.a 5) := rotl32_of_wired (by decide)
  simp only [State.roundTemp, hr, roundFun_of_ge h, bind, Except.bind]

theorem roundStep_of_ge {s : State} (h : 80 ≤ s.t.toNat) : roundStep s = .error (.stepOutOfRange s.t.toNat) := by
  simp only [roundStep, roundTemp_of_ge h, bind, Except.bind]

/-! ### The classes of steps (40_word_functions R106, R107) -/

/-- The steps of class c are the twenty from `20 * c` on. -/
theorem stepClass_eq_iff {t : Fin 80} {c : Fin 4} :
    stepClass t = c ↔ 20 * c.val ≤ t.val ∧ t.val ≤ 20 * c.val + 19 := by
  simp only [stepClass, Fin.ext_iff]
  omega

/-- K and f at every step of class c. -/
theorem roundConst_and_roundFun_of_class (c : Fin 4) {t : Nat} (x y z : Word) (hlo : 20 * c.val ≤ t)
    (hhi : t ≤ 20 * c.val + 19) :
    roundConst t = .ok (classConst c) ∧ roundFun x y z t = .ok (classFun c x y z) := by
  have ht : t < 80 := by omega
  have hc : stepClass ⟨t, ht⟩ = c := stepClass_eq_iff.2 ⟨hlo, hhi⟩
  rw [roundConst_of_lt ht, roundFun_of_lt ht, hc]
  exact ⟨rfl, rfl⟩

/-! ### Rotations (40_word_functions R100) -/

/-- The two shifts are the library's rotation. -/
theorem rotlBits_eq_rotateLeft (v : Word) {n : Nat} (h : n < 32) : rotlBits v n = v.rotateLeft n := by
  rw [BitVec.rotateLeft_def, Nat.mod_eq_of_lt h, rotlBits]

theorem getLsbD_rotlBits (v : Word) {n i : Nat} (hn : n < 32) (hi : i < 32) :
    (rotlBits v n).getLsbD i = v.getLsbD ((i + 32 - n) % 32) := by
  rw [rotlBits_eq_rotateLeft v hn, BitVec.getLsbD_rotateLeft, Nat.mod_eq_of_lt hn]
  by_cases hin : i < n
  case pos =>
    have hwrap : (i + 32 - n) % 32 = 32 - n + i := by omega
    simp [hin, hwrap]
  case neg =>
    have hmove : (i + 32 - n) % 32 = i - n := by omega
    simp [hin, hi, hmove]

/-! ### Choose, parity and majority, bit by bit (40_word_functions R102 to R104) -/

section
variable (x y z : Word) {i : Nat}

theorem getLsbD_ch (h : i < 32) :
    (ch x y z).getLsbD i = if x.getLsbD i then y.getLsbD i else z.getLsbD i := by
  simp only [ch, BitVec.getLsbD_xor, BitVec.getLsbD_and, BitVec.getLsbD_not, h]
  cases x.getLsbD i
  case false => simp
  case true => simp

theorem getLsbD_parity : (parity x y z).getLsbD i = (x.getLsbD i ^^ y.getLsbD i ^^ z.getLsbD i) := by
  simp only [parity, BitVec.getLsbD_xor]

/-- The exclusive or of the three pairwise conjunctions is the majority of three bits. -/
theorem xor_and_eq_true_iff_two_le (a b c : Bool) :
    ((a && b) ^^ (a && c) ^^ (b && c)) = true ↔ 2 ≤ a.toNat + b.toNat + c.toNat := by
  revert a b c
  decide

theorem getLsbD_maj_eq_true_iff :
    (maj x y z).getLsbD i = true ↔ 2 ≤ (x.getLsbD i).toNat + (y.getLsbD i).toNat + (z.getLsbD i).toNat := by
  simp only [maj, BitVec.getLsbD_xor, BitVec.getLsbD_and]
  exact xor_and_eq_true_iff_two_le _ _ _

end

end Sys2Proof.Machine

/-! SUPPORT. The statements about the word functions (40_word_functions). -/

namespace Sys2Proof.Proofs
open Sys2Proof.Machine

/-- Settles O43: a wired amount gives the rotated word, whose bits come from n places below. -/
theorem rotationMovesEachBit : Obligations.RotationMovesEachBit := by
  intro v n hn
  have hlt : n < 32 := by omega
  exact ⟨rotlBits v n, rotl32_of_wired hn, fun _ hi => getLsbD_rotlBits v hlt hi⟩

/-- Settles O45: each range is one class of steps. -/
theorem roundConstantAndFunctionByClass : Obligations.RoundConstantAndFunctionByClass :=
  fun t x y z =>
    ⟨fun hhi => roundConst_and_roundFun_of_class 0 x y z (Nat.zero_le t) hhi,
      fun hlo hhi => roundConst_and_roundFun_of_class 1 x y z hlo hhi,
      fun hlo hhi => roundConst_and_roundFun_of_class 2 x y z hlo hhi,
      fun hlo hhi => roundConst_and_roundFun_of_class 3 x y z hlo hhi⟩

/-- Settles O42: the range checks of K, f and the rotator, and a round stops at f's. -/
theorem stepOutsideTheRangeIsAFault : Obligations.StepOutsideTheRangeIsAFault :=
  ⟨fun _ ht => ⟨roundConst_of_ge ht, fun _ _ _ => roundFun_of_ge ht⟩, fun _ hs => roundStep_of_ge hs,
    fun _ _ h1 h5 h30 => rotl32_of_unwired (not_or.2 ⟨h1, not_or.2 ⟨h5, h30⟩⟩)⟩

/-- Settles O44: the three functions at one bit. -/
theorem chooseParityMajorityBitByBit : Obligations.ChooseParityMajorityBitByBit :=
  fun x y z _ hi => ⟨getLsbD_ch x y z hi, getLsbD_parity x y z, getLsbD_maj_eq_true_iff x y z⟩

end Sys2Proof.Proofs

/-! SUPPORT. The schedule word by word: the block, then the recurrence; and the 16-word window as its last 16 words
(41_schedule_expander R121 to R125). -/

namespace Sys2Proof.Machine

section
variable (blk : Block)

/-! ### The words of the schedule (41_schedule_expander R121 to R123) -/

theorem getElem_loadSchedule {i : Nat} (h : i < 16) : (loadSchedule blk)[i] = blk[i] := by
  simp [loadSchedule, h]

/-- Filling word `16 + n` leaves the words below it. -/
theorem getElem_pureScheduleUpTo_succ {n t : Nat} (h : n + 1 ≤ 64) (ht : t < 16 + n) :
    (pureScheduleUpTo blk (n + 1) h)[t] = (pureScheduleUpTo blk n (Nat.le_of_succ_le h))[t] :=
  Vector.getElem_set_ne (by omega) (by omega) (Nat.ne_of_gt ht)

/-- A word once filled stays: the whole schedule has it. -/
theorem getElem_pureScheduleUpTo {n t : Nat} (h : n ≤ 64) (ht : t < 16 + n) :
    (pureScheduleUpTo blk n h)[t] = (pureSchedule blk)[t] := by
  induction h using Nat.decreasingInduction with
  | self => rfl
  | of_succ n hn ih => exact (getElem_pureScheduleUpTo_succ blk hn ht).symm.trans (ih (by omega))

/-- The first 16 words are the block's. -/
theorem getElem_pureSchedule_of_lt {i : Nat} (h : i < 16) : (pureSchedule blk)[i] = blk[i] := by
  rw [← getElem_pureScheduleUpTo blk (Nat.zero_le 64) h]
  exact getElem_loadSchedule blk h

/-- The recurrence: word t is filled from four words that stand already. -/
theorem getElem_pureSchedule_of_ge {t : Nat} (hlo : 16 ≤ t) (hhi : t < 80) :
    (pureSchedule blk)[t] =
      rotlBits ((pureSchedule blk)[t - 3] ^^^ (pureSchedule blk)[t - 8] ^^^ (pureSchedule blk)[t - 14] ^^^
        (pureSchedule blk)[t - 16]) 1 := by
  obtain ⟨n, rfl⟩ := Nat.exists_eq_add_of_le hlo
  have hn : n + 1 ≤ 64 := by omega
  have h3 : 16 + n - 3 = 13 + n := by omega
  have h8 : 16 + n - 8 = 8 + n := by omega
  have h14 : 16 + n - 14 = 2 + n := by omega
  have h16 : 16 + n - 16 = n := by omega
  rw [← getElem_pureScheduleUpTo blk hn (show 16 + n < 16 + (n + 1) by omega), pureScheduleUpTo,
    Vector.getElem_set_self]
  simp only [h3, h8, h14, h16]
  rw [getElem_pureScheduleUpTo, getElem_pureScheduleUpTo, getElem_pureScheduleUpTo, getElem_pureScheduleUpTo]
  all_goals omega

/-! ### The window (41_schedule_expander R124) -/

/-- Before round `16 + n` the window holds the words `n` to `n + 15`, each at its number modulo 16. -/
theorem getElem_windowUpTo {n m : Nat} (h : n ≤ 64) (hlo : n ≤ m) (hhi : m < 16 + n) :
    (windowUpTo blk n)[m % 16] = (pureSchedule blk)[m] := by
  induction n generalizing m with
  | zero =>
    simp only [windowUpTo, Nat.mod_eq_of_lt hhi]
    exact (getElem_pureSchedule_of_lt blk hhi).symm
  | succ n ih =>
    rw [windowUpTo, Vector.getElem_set]
    by_cases hm : m = 16 + n
    case pos =>
      subst hm
      have h16 : (16 + n) % 16 = (16 + n - 16) % 16 := by omega
      rw [if_pos rfl, getElem_pureSchedule_of_ge blk (by omega) (by omega)]
      simp only [h16]
      rw [ih, ih, ih, ih]
      all_goals omega
    case neg =>
      rw [if_neg (by omega)]
      exact ih (by omega) (by omega) (by omega)

theorem windowWord_eq_getElem_pureSchedule {n : Nat} (h : n < 64) :
    windowWord blk n = (pureSchedule blk)[16 + n] :=
  getElem_windowUpTo blk h (by omega) (by omega)

end

/-! ### Linearity (41_schedule_expander R125) -/

theorem rotlBits_xor (v v' : Word) {n : Nat} (h : n < 32) :
    rotlBits (v ^^^ v') n = rotlBits v n ^^^ rotlBits v' n := by
  apply BitVec.eq_of_getLsbD_eq
  intro i hi
  simp only [BitVec.getLsbD_xor, getLsbD_rotlBits _ h hi]

/-- The recurrence's right-hand side is linear. -/
theorem rotlBits_xor_four (a b c d a' b' c' d' : Word) :
    rotlBits ((a ^^^ a') ^^^ (b ^^^ b') ^^^ (c ^^^ c') ^^^ (d ^^^ d')) 1 =
      rotlBits (a ^^^ b ^^^ c ^^^ d) 1 ^^^ rotlBits (a' ^^^ b' ^^^ c' ^^^ d') 1 := by
  rw [← rotlBits_xor _ _ (by decide)]
  congr 1
  ac_rfl

theorem getElem_pureSchedule_zipWith_xor (blk blk' : Block) (t : Nat) (h : t < 80) :
    (pureSchedule (Vector.zipWith (· ^^^ ·) blk blk'))[t] = (pureSchedule blk)[t] ^^^ (pureSchedule blk')[t] := by
  induction t using Nat.strongRecOn with
  | ind t ih =>
    by_cases ht : t < 16
    case pos => simp only [getElem_pureSchedule_of_lt _ ht, Vector.getElem_zipWith]
    case neg =>
      have hlo : 16 ≤ t := Nat.le_of_not_lt ht
      simp only [getElem_pureSchedule_of_ge _ hlo h]
      rw [ih (t - 3) (by omega), ih (t - 8) (by omega), ih (t - 14) (by omega), ih (t - 16) (by omega)]
      exact rotlBits_xor_four ..

end Sys2Proof.Machine

/-! SUPPORT. The statements about the schedule expander (41_schedule_expander). -/

namespace Sys2Proof.Proofs
open Sys2Proof.Machine

/-- Settles O46: the engine's expander gives the pure schedule, which has the block's words and the recurrence. -/
theorem scheduleFollowsTheRecurrence : Obligations.ScheduleFollowsTheRecurrence := by
  intro blk
  refine ⟨pureSchedule blk, expand_eq_pureSchedule blk, fun _ hi => getElem_pureSchedule_of_lt blk hi, ?_⟩
  intro t ht
  exact (getElem_pureSchedule_of_ge blk ht.1 ht.2).trans (rotlBits_eq_rotateLeft _ (by decide))

/-- Settles O47: before each round the window holds the schedule's last 16 words. -/
theorem sixteenWordWindowGivesTheSameSchedule : Obligations.SixteenWordWindowGivesTheSameSchedule :=
  fun blk => ⟨pureSchedule blk, expand_eq_pureSchedule blk, fun _ hn => windowWord_eq_getElem_pureSchedule blk hn⟩

/-- Settles O48: the three schedules are the pure ones, and those are linear word by word. -/
theorem expanderIsLinearOverXor : Obligations.ExpanderIsLinearOverXor :=
  fun blk blk' =>
    ⟨pureSchedule blk, pureSchedule blk', pureSchedule (Vector.zipWith (· ^^^ ·) blk blk'),
      expand_eq_pureSchedule blk, expand_eq_pureSchedule blk', expand_eq_pureSchedule _,
      getElem_pureSchedule_zipWith_xor blk blk'⟩

end Sys2Proof.Proofs

/-! SUPPORT. The sum of a round over numbers, and the state the compression of a block ends in (42_round_pipeline R131 to
R135). -/

namespace Sys2Proof.Machine

/-- Addition of words is addition of numbers modulo 2^32. -/
theorem add_five_eq_ofNat (r f e k w : Word) :
    r + f + e + k + w = BitVec.ofNat 32 (r.toNat + f.toNat + e.toNat + k.toNat + w.toNat) := by
  simp only [BitVec.ofNat_add, BitVec.ofNat_toNat, BitVec.setWidth_eq]

@[simp] theorem State.atRound_w (s : State) (v : Working) (n : Nat) : (s.atRound v n).w = s.w := rfl
@[simp] theorem State.atRound_t (s : State) (v : Working) (n : Nat) : (s.atRound v n).t = BitVec.ofNat 7 n := rfl

/-- The compression of a block is the mix of its loaded registers after 80 rounds (42_round_pipeline R134). -/
theorem compressBlock_eq_mix_atRound (k : Nat) (blk : Block) (s : State) :
    compressBlock k blk s = .ok ((s.loadBlock k (pureSchedule blk)).atRound
      (pureRounds (pureSchedule blk) 80 (Nat.le_refl 80) ⟨s.h[0], s.h[1], s.h[2], s.h[3], s.h[4]⟩) 80).mix := by
  have hrounds := runRounds_atRound (s.loadBlock k (pureSchedule blk)) ⟨s.h[0], s.h[1], s.h[2], s.h[3], s.h[4]⟩ 80
    (Nat.le_refl 80)
  rw [loadBlock_eq_atRound] at hrounds
  simp only [compressBlock, expand_eq_pureSchedule, bind, Except.bind, hrounds, State.loadBlock_w]

end Sys2Proof.Machine

/-! SUPPORT. The statements about the round pipeline (42_round_pipeline). -/

namespace Sys2Proof.Proofs
open Sys2Proof.Machine

/-- Settles O40: H and the frame are those of any block's compression; W and t are the loaded schedule and the round the
mixer starts from. -/
theorem roundPipelineComputesCompress : Obligations.RoundPipelineComputesCompress := by
  intro k blk s
  obtain ⟨s', hok, hhash, hframe⟩ := compressBlock_ok k blk s
  have hend := Except.ok.inj (hok.symm.trans (compressBlock_eq_mix_atRound k blk s))
  refine ⟨s', hok, hhash, ?_, ?_, hframe⟩
  · rw [hend, State.mix_w, State.atRound_w, State.loadBlock_w]
  · rw [hend, State.mix_t, State.atRound_t]; rfl

/-- Settles O41: f and K are those of the step's class; the sum over words is the sum over numbers modulo 2^32. -/
theorem roundShiftsTheWorkingVariables : Obligations.RoundShiftsTheWorkingVariables := by
  intro s ht
  refine ⟨_, _, roundFun_of_lt ht, roundConst_of_lt ht, ?_⟩
  have h5 : rotlBits s.a 5 = s.a.rotateLeft 5 := rotlBits_eq_rotateLeft s.a (by decide)
  have h30 : rotlBits s.b 30 = s.b.rotateLeft 30 := rotlBits_eq_rotateLeft s.b (by decide)
  rw [roundStep_of_lt ht, h5, h30, add_five_eq_ofNat]

end Sys2Proof.Proofs

/-! SUPPORT. The padder byte by byte: what stands at each position of a padded tail, and of the blocks made of it
(43_padder R151 to R153). -/

namespace Sys2Proof.Machine
open Sys2Proof.Statements

/-! ### The bytes of a block -/

/-- Byte `k` of a big-endian word, the most significant first (00_scope R11). -/
theorem be32_byte (b : Fin 4 → Byte) (k : Fin 4) :
    (be32 (b 0) (b 1) (b 2) (b 3)).toNat / 256 ^ (3 - k.val) % 256 = (b k).toNat := by
  have h0 := (b 0).isLt
  have h1 := (b 1).isLt
  have h2 := (b 2).isLt
  have h3 := (b 3).isLt
  rw [be32_toNat]
  fin_cases k <;> simp <;> omega

/-- Byte `i` of `BE64(n)`, the most significant first (00_scope R11). -/
theorem be64_getElem? (n : BitVec 64) {i : Nat} (h : i < 8) :
    (be64 n)[i]? = some (n.extractLsb' (8 * (7 - i)) 8) := by
  interval_cases i <;> rfl

theorem blocksOfBytes_length (k : Nat) (q : List Byte) : (blocksOfBytes k q).length = k := by
  simp [blocksOfBytes]

/-- Word `i` of the block of 64 bytes `q` holds its bytes 4i to 4i + 3. -/
theorem blockOfBytes_toList_getD (q : List Byte) {i : Nat} (h : i < 16) :
    (blockOfBytes q).toList.getD i 0 =
      be32 (q.getD (4 * i) 0) (q.getD (4 * i + 1) 0) (q.getD (4 * i + 2) 0) (q.getD (4 * i + 3) 0) := by
  simp [blockOfBytes, List.getD, h]

theorem getD_blocksOfBytes (q : List Byte) {j k : Nat} (d : Block) (h : j < k) :
    (blocksOfBytes k q).getD j d = blockOfBytes ((q.drop (64 * j)).take 64) := by
  simp [blocksOfBytes, List.getD, h]

/-- The blocks of a byte sequence hold its bytes in order (43_padder R153). -/
theorem byteOf_blocksOfBytes {q : List Byte} {k p : Nat} {b : Byte} (h : p < 64 * k) (hb : q[p]? = some b) :
    byteOf (blocksOfBytes k q) p = b.toNat := by
  have hj : p / 64 < k := by omega
  have hi : p % 64 / 4 < 16 := by omega
  have hpos : 64 * (p / 64) + (4 * (p % 64 / 4) + p % 4) = p := by omega
  have hlt : 4 * (p % 64 / 4) + p % 4 < 64 := by omega
  rw [byteOf, getD_blocksOfBytes q _ hj, blockOfBytes_toList_getD _ hi]
  refine (be32_byte (fun k => ((q.drop (64 * (p / 64))).take 64).getD (4 * (p % 64 / 4) + k.val) 0)
    ⟨p % 4, by omega⟩).trans ?_
  simp only [List.getD, List.getElem?_take_of_lt hlt, List.getElem?_drop, hpos, hb, Option.getD_some]

/-! ### The bytes of the padded tail -/

section
variable (tail : List Byte) (len : Nat)

theorem paddedTail_getElem?_tail {p : Nat} (h : p < tail.length) : (paddedTail tail len)[p]? = tail[p]? := by
  simp only [paddedTail, List.append_assoc, List.getElem?_append_left h]

theorem paddedTail_getElem?_marker : (paddedTail tail len)[tail.length]? = some 0x80 := by
  simp [paddedTail]

theorem paddedTail_getElem?_zero {p : Nat} (hlo : tail.length < p) (hhi : p < tail.length + 1 + padZeros tail.length) :
    (paddedTail tail len)[p]? = some 0 := by
  simp only [paddedTail]
  rw [List.getElem?_append_left (by simp; omega), List.getElem?_append_right (by simp; omega),
    List.getElem?_replicate_of_lt (by simp; omega)]

theorem paddedTail_getElem?_length (i : Nat) :
    (paddedTail tail len)[tail.length + 1 + padZeros tail.length + i]? = (be64 (BitVec.ofNat 64 (8 * len)))[i]? := by
  have hfront : (tail ++ [0x80] ++ List.replicate (padZeros tail.length) 0).length =
      tail.length + 1 + padZeros tail.length := by
    simp only [List.length_append, List.length_replicate, List.length_singleton]
  rw [paddedTail, ← hfront, List.getElem?_append_right (Nat.le_add_right _ _), Nat.add_sub_cancel_left]

/-- The padded tail, part by part: tail, marker, zeros, length field. -/
theorem paddedTail_length_eq_add :
    (paddedTail tail len).length = tail.length + 1 + padZeros tail.length + 8 := by
  simp only [paddedTail, List.length_append, List.length_replicate, be64_length, List.length_singleton]

end

/-- The padded tail is whole blocks (43_padder R153). -/
theorem dvd_paddedTail_length {tail : List Byte} (len : Nat) (h : tail.length ≤ 63) :
    64 ∣ (paddedTail tail len).length := by
  rw [paddedTail_length len h]
  split <;> decide

/-- Byte `i` of the bit length, as the padder encodes it: below the size limit it fits in 64 bits (43_padder R152, R155). -/
theorem bitLength_byte {len : Nat} (hlen : len < 2 ^ 61) (i : Nat) :
    ((BitVec.ofNat 64 (8 * len)).extractLsb' (8 * (7 - i)) 8).toNat = 8 * len / 256 ^ (7 - i) % 256 := by
  have hfit : 8 * len % 2 ^ 64 = 8 * len := Nat.mod_eq_of_lt (by omega)
  rw [BitVec.extractLsb'_toNat, BitVec.toNat_ofNat, hfit, Nat.shiftRight_eq_div_pow, Nat.pow_mul]

/-- What the padder gives, when it gives blocks: those of the padded tail of a message below the size limit
(43_padder R155, R157). -/
theorem eq_of_pad_eq_some {tail : List Byte} {len : Nat} {blocks : List Block} (ht : tail.length ≤ 63)
    (h : pad tail len = some blocks) :
    len < 2 ^ 61 ∧ blocks = blocksOfBytes blocks.length (paddedTail tail len) ∧
      64 * blocks.length = tail.length + 1 + padZeros tail.length + 8 := by
  have hlen : len < 2 ^ 61 := (pad_eq_some h ht).1
  obtain rfl := Option.some.inj ((pad_of_lt tail hlen).symm.trans h)
  rw [blocksOfBytes_length, Nat.mul_div_cancel' (dvd_paddedTail_length len ht)]
  exact ⟨hlen, rfl, paddedTail_length_eq_add tail len⟩

/-! ### The tail of a message, and its padded message (43_padder R150, R156) -/

theorem getElem?_tailBytes (data : Block) {n i : Nat} (hn : n ≤ 64) (hi : i < n) :
    (tailBytes data n)[i]? = some (dataByte data ⟨i, by omega⟩) := by
  have hi64 : i < 64 := by omega
  simp [tailBytes, List.getElem?_take_of_lt hi, hi64]

theorem val_lt_of_mem_take_finRange {N n : Nat} {p : Fin N} (h : p ∈ (List.finRange N).take n) : p.val < n := by
  obtain ⟨i, hi, rfl⟩ := List.mem_take_iff_getElem.1 h
  simp only [List.getElem_finRange, Fin.val_cast]
  omega

/-- The tail is fixed by the first `n` bytes of DATA (43_padder R150). -/
theorem tailBytes_congr {d₁ d₂ : Block} {n : Nat}
    (h : ∀ p : Fin 64, p.val < n → dataByte d₁ p = dataByte d₂ p) : tailBytes d₁ n = tailBytes d₂ n := by
  unfold tailBytes
  exact List.map_congr_left fun p hp => h p (val_lt_of_mem_take_finRange hp)

/-- The bytes of a message after its whole blocks. -/
def messageTail (m : List Byte) : List Byte := m.drop (64 * (m.length / 64))

theorem messageTail_length (m : List Byte) : (messageTail m).length = m.length % 64 := by
  rw [messageTail, List.length_drop]
  omega

theorem messageTail_length_le (m : List Byte) : (messageTail m).length ≤ 63 := by
  rw [messageTail_length]
  omega

/-- The blocks the padder makes of a message's tail. -/
def tailBlocks (m : List Byte) : List Block :=
  blocksOfBytes ((paddedTail (messageTail m) m.length).length / 64) (paddedTail (messageTail m) m.length)

/-- DATA that holds the rest of a message gives FINALIZE the message's tail. -/
theorem tailBytes_eq_messageTail {m : List Byte} {data : Block} {n : Nat} (hn : n = m.length % 64)
    (h : ∀ p : Fin 64, p.val < n → m[64 * (m.length / 64) + p.val]? = some (dataByte data p)) :
    tailBytes data n = messageTail m := by
  have hn64 : n ≤ 64 := by omega
  refine List.ext_getElem? fun i => ?_
  by_cases hi : i < n
  · rw [getElem?_tailBytes data hn64 hi, messageTail, List.getElem?_drop]
    exact (h ⟨i, by omega⟩ hi).symm
  · rw [List.getElem?_eq_none (by rw [tailBytes_length data hn64]; omega),
      List.getElem?_eq_none (by rw [messageTail_length]; omega)]

/-- The blocks of two byte sequences, the first of whole blocks, are those of the two together. -/
theorem blocksOfBytes_append {q : List Byte} {k : Nat} (hq : q.length = 64 * k) (j : Nat) (r : List Byte) :
    blocksOfBytes (k + j) (q ++ r) = blocksOfBytes k q ++ blocksOfBytes j r := by
  have hfirst : ∀ i ∈ List.range k, ((q ++ r).drop (64 * i)).take 64 = (q.drop (64 * i)).take 64 := by
    intro i hi
    have hik : i < k := List.mem_range.1 hi
    rw [List.drop_append_of_le_length (by omega), List.take_append_of_le_length (by rw [List.length_drop]; omega)]
  have hsecond : ∀ i, (q ++ r).drop (64 * (k + i)) = r.drop (64 * i) := by
    intro i
    rw [Nat.mul_add, ← hq, List.drop_length_add_append]
  simp only [blocksOfBytes, List.range_add, List.map_append, List.map_map, Function.comp_def, hsecond]
  rw [List.map_congr_left fun i hi => congrArg blockOfBytes (hfirst i hi)]

/-- The whole blocks of a byte sequence do not depend on what follows them. -/
theorem blocksOfBytes_take {q : List Byte} {k : Nat} (h : 64 * k ≤ q.length) :
    blocksOfBytes k (q.take (64 * k)) = blocksOfBytes k q := by
  have happend := blocksOfBytes_append (List.length_take_of_le h) 0 (q.drop (64 * k))
  rw [List.take_append_drop] at happend
  exact (happend.trans (List.append_nil _)).symm

/-- The two ways to count the zeros agree (43_padder R151, R156). -/
theorem padZeros_eq_mod {n : Nat} (h : n ≤ 63) : padZeros n = (119 - n) % 64 := by
  unfold padZeros
  split <;> omega

/-- The padded message is the whole blocks and then the padded tail (43_padder R156). -/
theorem paddedMessage_eq_append (m : List Byte) :
    paddedMessage m = m.take (64 * (m.length / 64)) ++ paddedTail (messageTail m) m.length := by
  have hzeros := padZeros_eq_mod (messageTail_length_le m)
  rw [messageTail_length] at hzeros
  rw [paddedTail, messageTail_length, hzeros, messageTail]
  simp only [← List.append_assoc, List.take_append_drop]
  rfl

theorem paddedMessage_length (m : List Byte) :
    (paddedMessage m).length = 64 * (m.length / 64) + (paddedTail (messageTail m) m.length).length := by
  rw [paddedMessage_eq_append, List.length_append, List.length_take_of_le (Nat.mul_div_le _ _)]

/-- The blocks of the padded message are the whole blocks and then the blocks the tail gives (43_padder R156). -/
theorem blocks_paddedMessage (m : List Byte) :
    blocksOfBytes ((paddedMessage m).length / 64) (paddedMessage m) =
      blocksOfBytes (m.length / 64) m ++ tailBlocks m := by
  have hwhole : 64 * (m.length / 64) ≤ m.length := Nat.mul_div_le _ _
  have hcount : (paddedMessage m).length / 64 =
      m.length / 64 + (paddedTail (messageTail m) m.length).length / 64 := by
    rw [paddedMessage_length, Nat.mul_add_div (by decide)]
  rw [hcount, paddedMessage_eq_append, blocksOfBytes_append (List.length_take_of_le hwhole), blocksOfBytes_take hwhole]
  rfl

theorem pad_messageTail {m : List Byte} (h : m.length < 2 ^ 61) : pad (messageTail m) m.length = some (tailBlocks m) :=
  pad_of_lt _ h

/-- `Pad` of the tail after the whole blocks gives the blocks of the padded message (43_padder R156). -/
theorem messageBlocks_eq {m : List Byte} (h : m.length < 2 ^ 61) :
    messageBlocks m = some (blocksOfBytes ((paddedMessage m).length / 64) (paddedMessage m)) := by
  rw [blocks_paddedMessage]
  exact congrArg (Option.map (blocksOfBytes (m.length / 64) m ++ ·)) (pad_messageTail h)

/-- The padded message is the least number of whole blocks that hold the message and 9 bytes more (43_padder R156). -/
theorem paddedMessage_length_least (m : List Byte) :
    (paddedMessage m).length % 64 = 0 ∧ m.length + 9 ≤ (paddedMessage m).length ∧
      (paddedMessage m).length < m.length + 9 + 64 := by
  have hzeros := padZeros_eq_mod (messageTail_length_le m)
  have hlength := paddedMessage_length m
  rw [paddedTail_length_eq_add, hzeros, messageTail_length] at hlength
  omega

end Sys2Proof.Machine

/-! SUPPORT. The commands of a message, one after another: what COMPRESS and FINALIZE leave once the engine has completed
their jobs (44_commands R176 to R187), and what of DATA FINALIZE looks at. -/

namespace Sys2Proof.Machine
open Sys2Proof.Statements Host

/-! ### FINALIZE and the bytes of DATA (43_padder R150) -/

section
variable {s s₁ s₂ : State} {d₁ d₂ : Block}

theorem performFinalize_withData {n : BitVec 7} (ht : tailBytes d₁ n.toNat = tailBytes d₂ n.toNat) :
    { s with data := d₂ }.performFinalize n = { { s with data := d₁ }.performFinalize n with data := d₂ } := by
  unfold State.performFinalize
  split
  · rfl
  · split
    · simp only [State.totalLength, ht]
      split <;> rfl
    · rfl

/-- A command whose effect carries DATA along unread is a CTRL write that does so. -/
theorem ctrlWrite_withData {perform : State → State}
    (hp : perform { s with data := d₂ } = { perform { s with data := d₁ } with data := d₂ })
    (h₁ : ctrlWrite perform { s with data := d₁ } = .next s₁)
    (h₂ : ctrlWrite perform { s with data := d₂ } = .next s₂) : s₂ = { s₁ with data := d₂ } := by
  rcases ctrlWrite_cases h₁ with ⟨hb, rfl⟩ | ⟨hb, rfl⟩
  · rw [ctrlWrite_of_busy (s := { s with data := d₂ }) hb] at h₂
    exact (Outcome.next.inj h₂).symm
  · rw [ctrlWrite_of_idle (s := { s with data := d₂ }) hb, hp] at h₂
    exact (Outcome.next.inj h₂).symm

end

/-! ### A job from acceptance to completion -/

/-- The engine's turn with a job in flight completes it (44_commands R187). -/
theorem engineTurn_of_job {s : State} {jb : Job} (h : s.job = some jb) :
    ∃ s', engineTurn s = .next s' ∧ s'.h = jb.blocks.foldl pureCompress s.h ∧ s'.len = jb.newLen ∧
      s'.lifeState = jb.newState ∧ s'.busy = false ∧ s'.result = s.result := by
  obtain ⟨s', hgo, ⟨hnone, _⟩ | ⟨jb', s₁, hjob, hsame, hhash, rfl⟩⟩ := engineTurn_cases s
  · exact nomatch h.symm.trans hnone
  · obtain rfl := Option.some.inj (h.symm.trans hjob)
    obtain ⟨_, _, hresult, _⟩ := hsame.fields
    exact ⟨_, hgo, hhash, rfl, rfl, rfl, hresult⟩

/-- An instruction that starts a job leaves it latched, and the engine's turn then completes it. -/
theorem startedJob_completes {i : Instr} {s : State} {jb : Job}
    (h : exec i s = .next ((s.startJob jb).respond .writeOk)) :
    ∃ s₁ s₂, exec i s = .next s₁ ∧ s₁.job.map Job.blocks = some jb.blocks ∧ engineTurn s₁ = .next s₂ ∧
      s₂.h = jb.blocks.foldl pureCompress s.h ∧ s₂.len = jb.newLen ∧ s₂.lifeState = jb.newState ∧
      s₂.busy = false ∧ s₂.result = .ok := by
  obtain ⟨s₂, hgo, hend⟩ := engineTurn_of_job (s := (s.startJob jb).respond .writeOk) rfl
  exact ⟨_, s₂, h, rfl, hgo, hend⟩

/-- The engine is idle and takes input; it has compressed `len` bytes, which left the hash `h`. -/
def State.ReadyWith (s : State) (h : Hash) (len : Nat) : Prop :=
  s.busy = false ∧ InputAllowed s ∧ s.h = h ∧ s.len.toNat = len

section
variable {s : State} {h : Hash} {len : Nat}

theorem State.ReadyWith.withData (hs : s.ReadyWith h len) (data : Block) : { s with data := data }.ReadyWith h len := hs

/-- COMPRESS is accepted with the block in DATA (44_commands R176). -/
theorem exec_compress_of_ready (hs : s.ReadyWith h len) :
    exec .compress s = .next ((s.startJob ⟨[s.data], s.lengthAfterBlock, .absorbing⟩).respond .writeOk) := by
  obtain ⟨hbusy, hinput, _⟩ := hs
  have haccept : s.performCompress = s.startJob ⟨[s.data], s.lengthAfterBlock, .absorbing⟩ :=
    if_pos ((takesInput_iff s).2 hinput)
  rw [← haccept]
  exact ctrlWrite_of_idle hbusy

/-- FINALIZE n is accepted with the blocks the padder makes of the tail (44_commands R182). -/
theorem exec_finalize_of_ready {n : BitVec 7} {blocks : List Block} (hs : s.ReadyWith h len) (hn : n.toNat ≤ 63)
    (hpad : pad (tailBytes s.data n.toNat) (s.totalLength n) = some blocks) :
    exec (.finalize n) s =
      .next ((s.startJob ⟨blocks, BitVec.ofNat 64 (s.totalLength n), .finalized⟩).respond .writeOk) := by
  obtain ⟨hbusy, hinput, _⟩ := hs
  have haccept : s.performFinalize n = s.startJob ⟨blocks, BitVec.ofNat 64 (s.totalLength n), .finalized⟩ := by
    simp only [State.performFinalize, if_neg (Nat.not_lt.2 hn), (takesInput_iff s).2 hinput, if_true, hpad]
  rw [← haccept]
  exact ctrlWrite_of_idle hbusy

/-- Below the size limit COMPRESS counts its 64 bytes without saturating (44_commands R178). -/
theorem lengthAfterBlock_toNat (hfit : s.len.toNat + 64 ≤ 2 ^ 61) : s.lengthAfterBlock.toNat = s.len.toNat + 64 := by
  rw [State.lengthAfterBlock, Config.blockBytes, Config.lenLimit, Nat.min_eq_left hfit, BitVec.toNat_ofNat]
  omega

/-- COMPRESS latches the block in DATA; its job leaves the engine ready with that block compressed (44_commands R177). -/
theorem compress_completes (hs : s.ReadyWith h len) (hfit : len + 64 ≤ 2 ^ 61) :
    ∃ s₁ s₂, exec .compress s = .next s₁ ∧ s₁.job.map Job.blocks = some [s.data] ∧ engineTurn s₁ = .next s₂ ∧
      s₂.ReadyWith (pureCompress h s.data) (len + 64) := by
  obtain ⟨s₁, s₂, hexec, hjob, hgo, hhash, hlen, hlife, hbusy, _⟩ := startedJob_completes (exec_compress_of_ready hs)
  obtain ⟨_, _, rfl, rfl⟩ := hs
  exact ⟨s₁, s₂, hexec, hjob, hgo, hbusy, .inr hlife, hhash, by rw [hlen, lengthAfterBlock_toNat hfit]⟩

/-- Below the size limit FINALIZE n latches the padded tail; its job finalizes the message (44_commands R182, R185). -/
theorem finalize_completes {n : BitVec 7} {blocks : List Block} (hs : s.ReadyWith h len) (hn : n.toNat ≤ 63)
    (hfit : len + n.toNat < 2 ^ 61) (hpad : pad (tailBytes s.data n.toNat) (len + n.toNat) = some blocks) :
    ∃ s₁ s₂, exec (.finalize n) s = .next s₁ ∧ s₁.job.map Job.blocks = some blocks ∧ engineTurn s₁ = .next s₂ ∧
      s₂.h = blocks.foldl pureCompress h ∧ s₂.len.toNat = len + n.toNat ∧ s₂.lifeState = .finalized ∧
      s₂.busy = false ∧ s₂.result = .ok := by
  have hs' := hs
  obtain ⟨_, _, rfl, rfl⟩ := hs'
  obtain ⟨s₁, s₂, hexec, hjob, hgo, hhash, hlen, hend⟩ := startedJob_completes (exec_finalize_of_ready hs hn hpad)
  refine ⟨s₁, s₂, hexec, hjob, hgo, hhash, ?_, hend⟩
  rw [hlen, BitVec.toNat_ofNat, State.totalLength]
  omega

end

/-- Blocks given to COMPRESS one after another, within the size limit, are all accepted and compressed in order. -/
theorem exists_absorbsAll (blocks : List Block) {s : State} {h : Hash} {len : Nat} (hs : s.ReadyWith h len)
    (hfit : len + 64 * blocks.length ≤ 2 ^ 61) :
    ∃ s', AbsorbsAll blocks s s' ∧ s'.ReadyWith (blocks.foldl pureCompress h) (len + 64 * blocks.length) := by
  induction blocks generalizing s h len with
  | nil => exact ⟨s, rfl, hs⟩
  | cons blk rest ih =>
    rw [List.length_cons] at hfit ⊢
    obtain ⟨s₁, s₂, hexec, hjob, hgo, hs₂⟩ := compress_completes (hs.withData blk) (by omega)
    obtain ⟨s', habsorb, hs'⟩ := ih hs₂ (by omega)
    have hcount : len + 64 + 64 * rest.length = len + 64 * (rest.length + 1) := by omega
    exact ⟨s', ⟨s₁, s₂, hexec, hjob, hgo, habsorb⟩, hcount ▸ hs'⟩

end Sys2Proof.Machine

/-! SUPPORT. The statements about the padder (43_padder). -/

namespace Sys2Proof.Proofs
open Sys2Proof.Machine Sys2Proof.Statements

/-- Settles O49: the count of zeros on both sides of 55, and the length of the padded tail in blocks. -/
theorem paddingFillsOneOrTwoBlocks : Obligations.PaddingFillsOneOrTwoBlocks := by
  intro tail len ht
  refine ⟨?_, fun z hz => ?_, fun hlen => ⟨_, pad_of_lt tail hlen, ?_⟩, pad_of_ge tail⟩
  · unfold padZeros; split <;> omega
  · unfold padZeros; split <;> omega
  · rw [blocksOfBytes_length, paddedTail_length len ht]
    split <;> rfl

/-- Settles O50: the blocks hold the bytes of the padded tail, whose four parts follow one another. -/
theorem paddedBlocksHoldTailMarkerAndLength : Obligations.PaddedBlocksHoldTailMarkerAndLength := by
  intro tail len blocks p ht hpad hp
  obtain ⟨hlen, hblocks, hsize⟩ := eq_of_pad_eq_some ht hpad
  have hbyte {b : Byte} (hb : (paddedTail tail len)[p]? = some b) : byteOf blocks p = b.toNat := by
    rw [hblocks]
    exact byteOf_blocksOfBytes hp hb
  refine ⟨fun b hb => ?_, fun hmarker => ?_, fun hlo hhi => ?_, fun hlast => ?_⟩
  · obtain ⟨hlt, _⟩ := List.getElem?_eq_some_iff.1 hb
    exact hbyte ((paddedTail_getElem?_tail tail len hlt).trans hb)
  · exact hbyte (hmarker ▸ paddedTail_getElem?_marker tail len)
  · exact hbyte (paddedTail_getElem?_zero tail len hlo (by omega))
  · obtain ⟨i, rfl⟩ := Nat.exists_eq_add_of_le (show tail.length + 1 + padZeros tail.length ≤ p by omega)
    have hi : i < 8 := by omega
    have hexp : 64 * blocks.length - 1 - (tail.length + 1 + padZeros tail.length + i) = 7 - i := by omega
    rw [hbyte ((paddedTail_getElem?_length tail len i).trans (be64_getElem? _ hi)), bitLength_byte hlen i, hexp]

/-- Settles O51: FINALIZE n looks at DATA through its tail alone, which the first n bytes fix. -/
theorem finalizeIgnoresBytesBeyondTheTail : Obligations.FinalizeIgnoresBytesBeyondTheTail :=
  fun _ _ _ _ _ _ hbytes h₁ h₂ => ctrlWrite_withData (performFinalize_withData (tailBytes_congr hbytes)) h₁ h₂

/-- Settles O53: COMPRESS leaves the engine ready with the whole blocks compressed, and FINALIZE adds those of the tail;
together they are the blocks of the padded message. -/
theorem compressedBlocksAreThePaddedMessage : Obligations.CompressedBlocksAreThePaddedMessage := by
  intro m s n data hm hbusy hlife hhash hlen hn hdata
  have hsize : 64 * (m.length / 64) + n.toNat = m.length := by omega
  have htail : tailBytes data n.toNat = messageTail m := tailBytes_eq_messageTail hn hdata
  have hfresh : s.ReadyWith iv 0 := ⟨hbusy, .inl hlife, hhash, by rw [hlen]; rfl⟩
  obtain ⟨s₁, habsorb, hs₁⟩ := exists_absorbsAll (blocksOfBytes (m.length / 64) m) hfresh
    (by rw [blocksOfBytes_length]; omega)
  rw [blocksOfBytes_length, Nat.zero_add] at hs₁
  obtain ⟨s₂, s₃, hexec, hjob, hgo, hhash₃, hlen₃, hend⟩ := finalize_completes (hs₁.withData data) (n := n)
    (blocks := tailBlocks m) (by omega) (by omega) (by rw [htail, hsize]; exact pad_messageTail hm)
  refine ⟨⟨s₁, s₂, s₃, tailBlocks m, habsorb, hexec, hjob, hgo, (blocks_paddedMessage m).symm, ?_, ?_, hend⟩,
    messageBlocks_eq hm, paddedMessage_length_least m⟩
  · rw [hhash₃, blocks_paddedMessage, List.foldl_append]
  · rw [hlen₃, hsize]

end Sys2Proof.Proofs

/-! SUPPORT. The commands and the status reads by case, the completion step field by field, and what a turn leaves of a
job in flight, each said once (44_commands). -/

namespace Sys2Proof.Machine
open Sys2Proof.Statements Sys2Proof.Proofs Host

/-! ### CTRL writes -/

/-- WR CTRL of any word is the instruction that a write of the word decodes to (44_commands R170, 30_encoding R89). -/
theorem exec_wrCtrl_eq_exec_ctrlWriteInstr (w : Word) (s : State) :
    exec (.wrCtrl w) s = exec (ctrlWriteInstr w) s := by
  cases hd : decodeCmd w with
  | illegal | malformed => simp only [ctrlWriteInstr, hd]
  | init | compress | finalize n =>
    simp only [ctrlWriteInstr, hd, exec, execWrCtrl, execInit, execCompress, execFinalize, ctrlWrite,
      State.performCommand]

theorem finalizeWord_eq_ofNat (n : BitVec 7) : finalizeWord n = BitVec.ofNat 32 (0x00000003 + n.toNat * 2 ^ 8) :=
  BitVec.eq_of_toNat_eq (by rw [finalizeWord_toNat, BitVec.toNat_ofNat]; omega)

theorem performCompress_of_not_inputAllowed {s : State} (h : ¬ InputAllowed s) :
    s.performCompress = s.raiseReject .badState :=
  if_neg ((takesInput_iff s).not.2 h)

theorem performFinalize_of_not_inputAllowed {s : State} {n : BitVec 7} (hn : n.toNat ≤ 63) (h : ¬ InputAllowed s) :
    s.performFinalize n = s.raiseReject .badState :=
  (if_neg (Nat.not_lt.2 hn)).trans (if_neg ((takesInput_iff s).not.2 h))

/-- FINALIZE n at the size limit is OVERSIZE (44_commands R184). -/
theorem performFinalize_of_pad_eq_none {s : State} {n : BitVec 7} (hn : n.toNat ≤ 63) (h : InputAllowed s)
    (hpad : pad (tailBytes s.data n.toNat) (s.totalLength n) = none) : s.performFinalize n = s.raiseOversize := by
  simp only [State.performFinalize, if_neg (Nat.not_lt.2 hn), (takesInput_iff s).2 h, if_true, hpad]

/-- The length COMPRESS leaves, as a number: the sum, saturated (44_commands R178). -/
theorem lengthAfterBlock_toNat_eq_min (s : State) : s.lengthAfterBlock.toNat = min (s.len.toNat + 64) (2 ^ 61) := by
  simp only [State.lengthAfterBlock, Config.blockBytes, Config.lenLimit, BitVec.toNat_ofNat]
  omega

/-- INIT a second time changes nothing, dropped or not (44_commands R171, R172). -/
theorem exec_init_idem {s s' : State} (h : exec .init s = .next s') : exec .init s' = .next s' := by
  rcases ctrlWrite_cases h with ⟨hb, rfl⟩ | ⟨hb, rfl⟩
  · exact exec_ctrlWrite_of_busy hb (.inl rfl)
  · exact exec_init_of_idle hb (.inl rfl)

/-- Of all instructions only INIT, when not busy, leads out of FAILED (44_commands R172). -/
theorem exec_leaves_failed {i : Instr} {s s' : State} (h : exec i s = .next s') (hf : s.lifeState = .failed)
    (hne : s'.lifeState ≠ .failed) : IsInit i ∧ s' = s.freshHash.respond .writeOk := by
  rcases exec_cases h with ⟨_, _, rfl⟩ | ⟨hinit, _, rfl⟩ | ⟨_, _, _, r, rfl⟩ | ⟨_, _, _, _, rfl⟩ |
    ⟨_, _, _, _, jb, rfl⟩ | ⟨_, k, v, _, rfl⟩ | ⟨_, _, r, d, rfl⟩
  case inr.inl => exact ⟨hinit, rfl⟩
  case inr.inr.inr.inl => exact absurd rfl hne
  all_goals exact absurd hf hne

/-! ### STATUS and LEN as numbers -/

theorem toNat_append_eq_mul_add {m n : Nat} (x : BitVec m) (y : BitVec n) :
    (x ++ y).toNat = x.toNat * 2 ^ n + y.toNat := by
  rw [BitVec.toNat_append, shift_or_of_lt n y.isLt]

/-- STATUS, field by field (44_commands R190). -/
theorem statusWord_toNat (s : State) :
    s.statusWord.toNat = s.busy.toNat + 2 * s.dvalid.toNat + 4 * s.ovr.toNat + 16 * s.lifeState.code.toNat +
      256 * s.result.code.toNat := by
  have hresult := s.result.code.isLt
  have hlife := s.lifeState.code.isLt
  have hovr := s.ovr.toNat_lt
  have hdvalid := s.dvalid.toNat_lt
  have hbusy := s.busy.toNat_lt
  simp only [State.statusWord, BitVec.toNat_setWidth, toNat_append_eq_mul_add, BitVec.toNat_ofBool, BitVec.toNat_ofNat]
  omega

/-- DVALID as a number (10_state R29). -/
theorem dvalid_toNat (s : State) : s.dvalid.toNat = if s.lifeState = .finalized then 1 else 0 := by
  unfold State.dvalid
  cases s.lifeState <;> rfl

/-- A field of a 64-bit register as a number (44_commands R191). -/
theorem extractLsb'_32_eq_ofNat (len : BitVec 64) (start : Nat) :
    len.extractLsb' start 32 = BitVec.ofNat 32 (len.toNat / 2 ^ start) :=
  BitVec.eq_of_toNat_eq (by rw [BitVec.extractLsb'_toNat, Nat.shiftRight_eq_div_pow, BitVec.toNat_ofNat])

/-! ### The completion step -/

/-- The engine's turn with a job in flight, as one state: the blocks compressed into H, and the job finished
(44_commands R187). -/
theorem engineTurn_of_job_eq {s : State} {jb : Job} (h : s.job = some jb) :
    ∃ s₁, engineTurn s = .next (s₁.finishJob jb).forgetPipeline ∧ s₁.h = jb.blocks.foldl pureCompress s.h ∧
      s.SameOutside s₁ := by
  obtain ⟨s₁, hok, hhash, hsame⟩ := compressBlocks_ok jb.blocks 0 s
  exact ⟨s₁, by simp only [engineTurn, h, completeJob, hok], hhash, hsame⟩

/-- The engine's step, with reset not asserted, is the engine's turn. -/
theorem step_of_engine {s : State} (hr : s.resetLine = false) (hm : mover s = .engine) :
    step s = engineTurn { s with turns := s.turns.tail } := by
  rw [step_eq_takeTurn, hm]
  simp only [takeTurn, hr, Bool.false_eq_true, if_false]

/-- An instruction that starts a job, and then the engine's turn: the job's effect on H, LEN and STATE, and the frame
(44_commands R177, R185). -/
theorem startedJob_completes_with_frame {i : Instr} {s : State} {jb : Job}
    (h : exec i s = .next ((s.startJob jb).respond .writeOk)) :
    ∃ s₁ s₂, exec i s = .next s₁ ∧ engineTurn s₁ = .next s₂ ∧ s₂.h = jb.blocks.foldl pureCompress s.h ∧
      s₂.len = jb.newLen ∧ s₂.lifeState = jb.newState ∧ s₂.busy = false ∧ s₂.job = none ∧ s₂.data = s.data ∧
      s₂.ovr = s.ovr ∧ s₂.result = .ok := by
  obtain ⟨s₁, hgo, hhash, hsame⟩ := engineTurn_of_job_eq (s := (s.startJob jb).respond .writeOk) rfl
  obtain ⟨hdata, hovr, hresult, _⟩ := hsame.fields
  exact ⟨_, _, h, hgo, hhash, rfl, rfl, rfl, rfl, hdata, hovr, hresult⟩

/-! ### The host's turn -/

/-- The host's turn touches the queue and the response alone, or runs the instruction its oldest access decodes to. -/
theorem hostTurn_port_or_exec {s s' : State} (h : hostTurn s = .next s') :
    (∃ pending resp, s' = { s with pending := pending, resp := resp }) ∨
    ∃ acc rest i, s.pending = .access acc :: rest ∧ decode s.base acc = .ok i ∧
      exec i { s with pending := rest } = .next s' := by
  rcases hostTurn_cases h with ⟨_, rfl⟩ | ⟨acc, rest, hp, ha⟩ | ⟨rest, _, _, rfl⟩ | ⟨rest, _, _, rfl⟩
  case inr.inl =>
    rcases takeAccess_cases ha with ⟨i, hd, he⟩ | ⟨_, rfl⟩ | ⟨e, _, _, rfl⟩
    · exact .inr ⟨acc, rest, i, hp, hd, he⟩
    all_goals exact .inl ⟨_, _, rfl⟩
  all_goals exact .inl ⟨_, _, rfl⟩

/-- The host's turn neither faults nor is refused. -/
theorem hostTurn_goes_on (s : State) : ∃ s', hostTurn s = .next s' := by
  unfold hostTurn
  split
  · exact ⟨s, rfl⟩
  · unfold takeAccess
    split
    · exact exec_goes_on _ _
    all_goals exact ⟨_, rfl⟩
  · exact ⟨_, rfl⟩

/-- What the engine's completion step reads and writes is the same: JOB, H, LEN, STATE, BUSY and RESULT. -/
def State.SameJob (s s' : State) : Prop :=
  s'.job = s.job ∧ s'.h = s.h ∧ s'.len = s.len ∧ s'.lifeState = s.lifeState ∧ s'.busy = s.busy ∧ s'.result = s.result

/-- An instruction while busy leaves the job in flight alone (44_commands R171, R189), and always the turns. -/
theorem exec_sameJob_of_busy {i : Instr} {s s' : State} (h : exec i s = .next s') (hb : s.busy = true) :
    s.SameJob s' ∧ s'.turns = s.turns := by
  rcases exec_cases h with ⟨_, _, rfl⟩ | ⟨_, hidle, _⟩ | ⟨_, _, hidle, _⟩ | ⟨_, _, hidle, _⟩ | ⟨_, _, hidle, _⟩ |
    ⟨_, k, v, _, rfl⟩ | ⟨_, _, r, d, rfl⟩
  case inl => exact ⟨⟨rfl, rfl, rfl, rfl, rfl, rfl⟩, rfl⟩
  case inr.inr.inr.inr.inr.inl => exact ⟨⟨rfl, rfl, rfl, rfl, rfl, rfl⟩, rfl⟩
  case inr.inr.inr.inr.inr.inr => exact ⟨⟨rfl, rfl, rfl, rfl, rfl, rfl⟩, rfl⟩
  all_goals exact absurd (hb.symm.trans hidle) (by decide)

theorem hostTurn_sameJob_of_busy {s s' : State} (h : hostTurn s = .next s') (hb : s.busy = true) :
    s.SameJob s' ∧ s'.turns = s.turns := by
  rcases hostTurn_port_or_exec h with ⟨pending, resp, rfl⟩ | ⟨acc, rest, i, _, _, he⟩
  · exact ⟨⟨rfl, rfl, rfl, rfl, rfl, rfl⟩, rfl⟩
  · exact exec_sameJob_of_busy (s := { s with pending := rest }) he hb

/-! ### A run -/

theorem run_succ_of_step {s s' : State} (h : step s = .next s') (k : Nat) :
    core.run (k + 1) s = core.run k s' := by
  simp only [Core.run, core, h]

theorem run_two_of_steps {s s₁ s₂ : State} (h₁ : step s = .next s₁) (h₂ : step s₁ = .next s₂) :
    core.run 2 s = .next s₂ := by
  rw [run_succ_of_step h₁, run_succ_of_step h₂]
  rfl

/-! ### Out of FAILED -/

/-- With the invariant, FAILED means neither a job in flight nor reset asserted (44_commands R181, 70_reset_and_hazards
R250). -/
theorem State.Inv.job_none_of_failed {s : State} (hi : s.Inv) (hf : s.lifeState = .failed) :
    s.job = none ∧ s.resetLine = false := by
  constructor
  · have hbusy : s.busy = false := by
      by_contra hb
      rcases hi.busy_state (by simpa using hb) with h | h <;> exact nomatch hf.symm.trans h
    simpa [hbusy] using hi.busy_iff_job
  · by_contra hr
    obtain ⟨_, _, _, hlife, _⟩ := hi.reset_holds (by simpa using hr)
    exact nomatch hf.symm.trans hlife

/-- No access decodes to WR CTRL of INIT's word: it is INIT (30_encoding R89). -/
theorem eq_init_of_decode {base : Nat} {acc : Access} {i : Instr} (hd : decode base acc = .ok i) (hi : IsInit i) :
    i = .init := by
  rcases hi with rfl | rfl
  · rfl
  · exact nomatch (encode_of_decode_eq_ok hd).1

/-! ### A job in flight -/

/-- With the invariant, a job in flight means BUSY = 1 and reset not asserted (10_state R37, 70_reset_and_hazards
R251). -/
theorem State.Inv.busy_of_job {s : State} {jb : Job} (hi : s.Inv) (hjob : s.job = some jb) :
    s.busy = true ∧ s.resetLine = false := by
  constructor
  · simp [hi.busy_iff_job, hjob]
  · by_contra hr
    obtain ⟨_, _, _, _, _, _, _, hnone⟩ := hi.reset_holds (by simpa using hr)
    exact nomatch hjob.symm.trans hnone

/-- The job in flight in `s` has come to its end in `s'`: completed with its effect, or discarded by an assertion of
reset that was lined up (44_commands R188, 70_reset_and_hazards R251). -/
def State.JobEnds (s : State) (jb : Job) (s' : State) : Prop :=
  s'.job = none ∧ s'.busy = false ∧
    ((s'.h = jb.blocks.foldl pureCompress s.h ∧ s'.len = jb.newLen ∧ s'.lifeState = jb.newState) ∨
      (.assertReset ∈ s.turns ∧ s'.AtReset))

/-- The engine's step ends a job in flight. -/
theorem step_ends_job_of_engine {s : State} {jb : Job} (hr : s.resetLine = false) (hjob : s.job = some jb)
    (hm : mover s = .engine) : ∃ s', step s = .next s' ∧ s.JobEnds jb s' := by
  obtain ⟨s₁, hgo, hhash, _⟩ := engineTurn_of_job_eq (s := { s with turns := s.turns.tail }) hjob
  exact ⟨_, (step_of_engine hr hm).trans hgo, rfl, rfl, .inl ⟨hhash, rfl, rfl⟩⟩

/-- A step with a job in flight ends it, or uses up a turn that was lined up and leaves the job alone. -/
theorem step_with_job {s : State} {jb : Job} (hi : s.Inv) (hjob : s.job = some jb) :
    ∃ s', step s = .next s' ∧
      (s.JobEnds jb s' ∨ ∃ turn, s.turns = turn :: s'.turns ∧ s'.job = some jb ∧ s'.h = s.h) := by
  obtain ⟨hbusy, hr⟩ := hi.busy_of_job hjob
  by_cases hm : mover s = .engine
  · obtain ⟨s', hstep, hends⟩ := step_ends_job_of_engine hr hjob hm
    exact ⟨s', hstep, .inl hends⟩
  · cases ht : s.turns with
    | nil => exact absurd (by simp [mover, ht, State.defaultTurn, hjob]) hm
    | cons turn rest =>
      have hturn : mover s = turn := mover_of_turns ht
      cases turn with
      | engine => exact absurd hturn hm
      | assertReset =>
        refine ⟨_, by rw [step_eq_takeTurn, hturn]; rfl, .inl ⟨rfl, rfl, .inr ⟨by simp [ht], ?_⟩⟩⟩
        exact applyReset_holds { s with turns := s.turns.tail }
      | releaseReset =>
        refine ⟨{ s with turns := rest }, ?_, .inr ⟨.releaseReset, rfl, hjob, rfl⟩⟩
        simp [step_eq_takeTurn, hturn, ht, takeTurn, hr]
      | host =>
        obtain ⟨s', hgo⟩ := hostTurn_goes_on { s with turns := rest }
        obtain ⟨⟨hjob', hhash, _⟩, hturns⟩ := hostTurn_sameJob_of_busy hgo hbusy
        exact ⟨s', (step_of_host hr ht).trans hgo, .inr ⟨.host, by rw [hturns], hjob'.trans hjob, hhash⟩⟩

/-- A job in flight ends within one step more than the turns that are lined up. -/
theorem job_ends_within_turns {s : State} {jb : Job} (hi : s.Inv) (hjob : s.job = some jb) :
    ∃ k s', k ≤ s.turns.length + 1 ∧ core.run k s = .next s' ∧ s.JobEnds jb s' := by
  induction hn : s.turns.length generalizing s with
  | zero =>
    obtain ⟨s', hstep, hends | ⟨turn, hturns, _⟩⟩ := step_with_job hi hjob
    · exact ⟨1, s', Nat.le_refl _, run_succ_of_step hstep 0, hends⟩
    · simp [hturns] at hn
  | succ n ih =>
    obtain ⟨s₁, hstep, hends | ⟨turn, hturns, hjob₁, hhash⟩⟩ := step_with_job hi hjob
    · exact ⟨1, s₁, by omega, run_succ_of_step hstep 0, hends⟩
    · rw [hturns, List.length_cons, Nat.add_right_cancel_iff] at hn
      obtain ⟨k, s', hk, hrun, hnone, hidle, hend⟩ := ih (step_keeps_inv hstep hi) hjob₁ hn
      refine ⟨k + 1, s', by omega, (run_succ_of_step hstep k).trans hrun, hnone, hidle, ?_⟩
      rw [hhash] at hend
      exact hend.imp_right fun ⟨hmem, hreset⟩ => ⟨hturns ▸ List.mem_cons_of_mem turn hmem, hreset⟩

end Sys2Proof.Machine

/-! SUPPORT. The statements about the commands, the status and data reads, and the engine agent (44_commands). -/

namespace Sys2Proof.Proofs
open Sys2Proof.Machine Sys2Proof.Statements Host

/-! ### Commands -/

/-- Settles O18: every CTRL write is dropped while busy. -/
theorem ctrlWriteWhileBusyOnlySetsOverrun : Obligations.CtrlWriteWhileBusyOnlySetsOverrun :=
  fun _ _ => exec_ctrlWrite_of_busy

/-- Settles O15: INIT when not busy and when busy, twice, and as the one way out of FAILED. -/
theorem initStartsAFreshMessage : Obligations.InitStartsAFreshMessage :=
  fun s => ⟨fun hb => exec_init_of_idle hb (.inl rfl), fun hb => exec_ctrlWrite_of_busy hb (.inl rfl),
    fun _ => exec_init_idem, fun _ _ hf h hne => (exec_leaves_failed h hf hne).1,
    exec_wrCtrl_eq_exec_ctrlWriteInstr 0x00000001 s⟩

/-- Settles O16: an engine that takes input accepts the block in DATA. -/
theorem compressIsAcceptedWithTheBlockLatched : Obligations.CompressIsAcceptedWithTheBlockLatched :=
  fun _ hb ha => exec_compress_of_ready ⟨hb, ha, rfl, rfl⟩

/-- Settles O17: the padder gives one block or two below the size limit, and none from it on. -/
theorem finalizeIsAcceptedOrOversize : Obligations.FinalizeIsAcceptedOrOversize := by
  intro s n hb ha hn
  have htail : (tailBytes s.data n.toNat).length = n.toNat := tailBytes_length s.data (by omega)
  obtain ⟨_, _, hlt, hge⟩ := paddingFillsOneOrTwoBlocks (tailBytes s.data n.toNat) (s.totalLength n) (by omega)
  rw [htail] at hlt
  refine ⟨fun hfit => ?_, fun hover => ?_⟩
  · obtain ⟨blocks, hpad, hcount⟩ := hlt hfit
    exact ⟨blocks, hpad, hcount, exec_finalize_of_ready ⟨hb, ha, rfl, rfl⟩ hn hpad⟩
  · have hreject := performFinalize_of_pad_eq_none hn ha (hge hover)
    exact (ctrlWrite_of_idle hb).trans (by rw [hreject]; rfl)

/-- Settles O20: the acceptances are those of O16 and O17; elsewhere both commands are BADSTATE. -/
theorem legalityOfCommandsByState : Obligations.LegalityOfCommandsByState := by
  intro s n hb hn
  refine ⟨⟨_, exec_init_of_idle hb (.inl rfl), rfl, hb⟩, fun ha => ?_, fun ha => ?_, fun hna => ⟨?_, ?_⟩⟩
  · exact ⟨_, compressIsAcceptedWithTheBlockLatched s hb ha, rfl, rfl⟩
  · obtain ⟨haccept, hoversize⟩ := finalizeIsAcceptedOrOversize s n hb ha hn
    rcases Nat.lt_or_ge (s.len.toNat + n.toNat) (2 ^ 61) with hfit | hover
    · obtain ⟨blocks, _, _, hexec⟩ := haccept hfit
      exact ⟨_, hexec, .inl ⟨rfl, rfl⟩⟩
    · exact ⟨_, hoversize hover, .inr ⟨rfl, hb⟩⟩
  · exact ctrlWrite_of_raiseReject hb (performCompress_of_not_inputAllowed hna)
  · exact ctrlWrite_of_raiseReject hb (performFinalize_of_not_inputAllowed hn hna)

/-- Settles O22: the three kinds of word decode to the three commands. -/
theorem ctrlWriteOfACommandWordIsTheCommand : Obligations.CtrlWriteOfACommandWordIsTheCommand := by
  intro s n hn
  refine ⟨exec_wrCtrl_eq_exec_ctrlWriteInstr 0x00000001 s, exec_wrCtrl_eq_exec_ctrlWriteInstr 0x00004002 s, ?_⟩
  rw [← finalizeWord_eq_ofNat, exec_wrCtrl_eq_exec_ctrlWriteInstr, ctrlWriteInstr_finalizeWord hn]

/-! ### Register accesses -/

/-- Settles O23: the word's fields as numbers, and the code of each. -/
theorem statusReadShowsItsFields : Obligations.StatusReadShowsItsFields := by
  intro s
  refine ⟨s.statusWord, rfl, ?_⟩
  rw [statusWord_toNat, dvalid_toNat]
  congr 2
  · cases s.lifeState <;> rfl
  · cases s.result <;> rfl

/-- Settles O24: the two halves of LEN as numbers. -/
theorem lengthReadsGiveTheHalvesOfTheCounter : Obligations.LengthReadsGiveTheHalvesOfTheCounter := by
  intro s
  have hlo : s.len.extractLsb' 0 32 = BitVec.ofNat 32 (s.len.toNat % 2 ^ 32) := by
    rw [extractLsb'_32_eq_ofNat, pow_zero, Nat.div_one]
    exact BitVec.eq_of_toNat_eq (by simp only [BitVec.toNat_ofNat, Nat.mod_mod])
  have hhi : s.len.extractLsb' 32 32 = BitVec.ofNat 32 (s.len.toNat / 2 ^ 32) := extractLsb'_32_eq_ofNat s.len 32
  refine ⟨fun hb => ⟨?_, ?_⟩, fun hb => ⟨⟨_, readWhenIdle_of_busy hb⟩, ⟨_, readWhenIdle_of_busy hb⟩⟩⟩
  · rw [← hlo]; exact readWhenIdle_of_idle hb
  · rw [← hhi]; exact readWhenIdle_of_idle hb

/-- Settles O29: DATA after the write, at the index and at another. -/
theorem dataWriteThenReadReturnsTheWord : Obligations.DataWriteThenReadReturnsTheWord := by
  intro s i v
  have hread (k : Fin 16) {u : Word} {s' : State} (h : s'.data[k] = u) : ReadsExactly (.rdData k) u s' := h ▸ rfl
  refine ⟨rfl, _, rfl, rfl, hread i ?_, fun k hk => hread k ?_⟩
  · exact Vector.getElem_set_self i.isLt
  · exact Vector.getElem_set_ne i.isLt k.isLt fun h => hk (Fin.ext h.symm)

/-! ### Jobs -/

/-- Settles O35: what the host takes while busy is dropped, or touches no register of the job. -/
theorem hostCannotDisturbAJobInFlight : Obligations.HostCannotDisturbAJobInFlight := by
  intro s s' hb hr hm h
  have hgo : hostTurn { s with turns := s.turns.tail } = .next s' := by
    simpa [step_eq_takeTurn, hm, takeTurn, hr] using h
  exact (hostTurn_sameJob_of_busy hgo hb).1

/-- Settles O36: in FAILED the engine has no job, so it is reset or the host that moves, and the host's INIT. -/
theorem onlyInitAndResetLeaveFailed : Obligations.OnlyInitAndResetLeaveFailed := by
  intro s s' hi h hf hne
  obtain ⟨hjob, hr⟩ := hi.job_none_of_failed hf
  rw [step_eq_takeTurn] at h
  rcases takeTurn_cases h with ⟨ht, rfl⟩ | ⟨_, hline, _⟩ | ⟨_, _, rfl⟩ | ⟨_, _, he⟩ | ⟨ht, _, hh⟩
  · exact ⟨rfl, rfl, rfl, .inl ht⟩
  · exact absurd (hr.symm.trans hline) (by decide)
  · exact absurd hf hne
  · obtain rfl : { s with turns := s.turns.tail } = s' := by simpa [engineTurn, hjob] using he
    exact absurd hf hne
  · rcases hostTurn_port_or_exec hh with ⟨pending, resp, rfl⟩ | ⟨acc, rest, i, hp, hd, he⟩
    · exact absurd hf hne
    · obtain ⟨hinit, rfl⟩ := exec_leaves_failed he hf hne
      exact ⟨rfl, rfl, rfl, .inr ⟨ht, acc, rest, hp, eq_init_of_decode hd hinit ▸ hd⟩⟩

/-- Settles O37: the compression leaves all but H and the internal registers alone, and then the job is finished. -/
theorem completionStepCompressesTheLatchedBlocks : Obligations.CompletionStepCompressesTheLatchedBlocks := by
  intro s jb hjob hr hm
  obtain ⟨s₁, hgo, hhash, hsame⟩ := engineTurn_of_job_eq (s := { s with turns := s.turns.tail }) hjob
  obtain ⟨hdata, hovr, hresult, hresp, hbase, hpending, hturns, hline⟩ := hsame.fields
  exact ⟨_, (step_of_engine hr hm).trans hgo, hhash, rfl, rfl, rfl, rfl, hresult, hovr, hdata, hresp, hbase, hpending,
    hturns, hline.trans hr⟩

/-- Settles O38: the job is the block in DATA. -/
theorem completedCompressHasCompressedTheBlock : Obligations.CompletedCompressHasCompressedTheBlock := by
  intro s hb ha
  obtain ⟨s₁, s₂, hexec, hgo, hhash, hlen, hend⟩ :=
    startedJob_completes_with_frame (exec_compress_of_ready ⟨hb, ha, rfl, rfl⟩)
  exact ⟨s₁, s₂, hexec, hgo, hhash, by rw [hlen, lengthAfterBlock_toNat_eq_min], hend⟩

/-- Settles O39: the job is the one or two blocks of the padded tail. -/
theorem completedFinalizeHasHashedThePaddedTail : Obligations.CompletedFinalizeHasHashedThePaddedTail := by
  intro s n hb ha hn hfit
  obtain ⟨blocks, hpad, hcount, _⟩ := (finalizeIsAcceptedOrOversize s n hb ha hn).1 hfit
  obtain ⟨s₁, s₂, hexec, hgo, hhash, hlen, hlife, hbusy, hjob, hframe⟩ :=
    startedJob_completes_with_frame (exec_finalize_of_ready ⟨hb, ha, rfl, rfl⟩ hn hpad)
  have hlen' : s₂.len.toNat = s.len.toNat + n.toNat := by
    rw [hlen, BitVec.toNat_ofNat, State.totalLength]
    omega
  refine ⟨s₁, s₂, blocks, hpad, hexec, hgo, ?_, hlen', hlife, hbusy, hjob, by simp [State.dvalid, hlife], hframe⟩
  split at hcount
  next hle =>
    obtain ⟨b0, rfl⟩ := List.length_eq_one_iff.1 hcount
    exact .inl ⟨b0, rfl, hle, hhash⟩
  next hgt =>
    obtain ⟨b0, b1, rfl⟩ := List.length_eq_two.1 hcount
    exact .inr ⟨b0, b1, rfl, Nat.lt_of_not_le hgt, hhash⟩

/-- Settles O58: H afterwards is the job's blocks folded over H before. -/
theorem jobResultDependsOnlyOnHashAndBlocks : Obligations.JobResultDependsOnlyOnHashAndBlocks := by
  intro s₁ s₂ s₁' s₂' hhash hjob h₁ h₂
  cases hj : s₁.job with
  | none =>
    obtain rfl : s₁ = s₁' := by simpa [engineTurn, hj] using h₁
    obtain rfl : s₂ = s₂' := by simpa [engineTurn, hjob.symm.trans hj] using h₂
    exact ⟨hhash, fun hne => absurd rfl hne⟩
  | some jb =>
    obtain ⟨t₁, hgo₁, hh₁, _⟩ := engineTurn_of_job_eq hj
    obtain ⟨t₂, hgo₂, hh₂, _⟩ := engineTurn_of_job_eq (hjob.symm.trans hj)
    obtain rfl := Outcome.next.inj (hgo₁.symm.trans h₁)
    obtain rfl := Outcome.next.inj (hgo₂.symm.trans h₂)
    exact ⟨hh₁.trans (hhash ▸ hh₂.symm), fun _ => ⟨rfl, rfl⟩⟩

/-- Settles O57: each step ends the job or uses up a turn. -/
theorem acceptedJobCompletes : Obligations.AcceptedJobCompletes :=
  fun _ _ => job_ends_within_turns

/-- Settles O59: while the job is in flight COMPRESS is dropped; once it has completed, STATE takes input. -/
theorem bothInterleavingsOfASecondCommandAreAllowed : Obligations.BothInterleavingsOfASecondCommandAreAllowed := by
  intro s jb rest ts hi hjob hnew hr hp
  have hbusy : s.busy = true := (hi.busy_of_job hjob).1
  have hcompress : decode s.base (encode s.base .compress) = .ok .compress := decode_encode s.base rfl
  constructor
  · have hdrop : step { s with turns := .host :: .engine :: ts } =
        .next (({ s with turns := .engine :: ts, pending := rest } : State).dropCommand.respond .writeOk) :=
      ((stepRunsTheDecodedInstruction { s with turns := .host :: .engine :: ts } _ rest _ hr hp hcompress).1 _
        rfl).trans (exec_ctrlWrite_of_busy hbusy (.inr (.inl rfl)))
    obtain ⟨s', hstep, hhash, _, _, hnone, _, _, hovr, _, _, _, hpending, _⟩ :=
      completionStepCompressesTheLatchedBlocks
        (({ s with turns := .engine :: ts, pending := rest } : State).dropCommand.respond .writeOk) jb hjob hr rfl
    exact ⟨s', run_two_of_steps hdrop hstep, hovr, hnone, hhash, hpending⟩
  · obtain ⟨s₁, hstep, hhash, _, hlife, _, hidle, _, hovr, hdata, _, hbase, hpending, hturns, hline⟩ :=
      completionStepCompressesTheLatchedBlocks { s with turns := .engine :: .host :: ts } jb hjob hr rfl
    have haccept := ((stepRunsTheDecodedInstruction s₁ _ rest _ hline (hpending.trans hp) (hbase ▸ hcompress)).1 ts
      hturns).trans (compressIsAcceptedWithTheBlockLatched _ hidle (.inr (hlife.trans hnew)))
    exact ⟨_, run_two_of_steps hstep haccept, hovr, congrArg (fun blk => some [blk]) hdata, hhash, rfl⟩

end Sys2Proof.Proofs

/-! SUPPORT. The digest serializer as numbers: the digit of each nibble, the bytes of a HEX word, and what the DIGEST
and HEX reads show by case (45_digest_serializer). -/

namespace Sys2Proof.Machine
open Sys2Proof.Statements Host

/-! ### Characters and words -/

/-- The two ranges a character of the digest lies in (45_digest_serializer R210, R216). -/
theorem digitCode_range {n : Nat} (h : n < 16) :
    (0x30 ≤ digitCode n ∧ digitCode n ≤ 0x39) ∨ (0x61 ≤ digitCode n ∧ digitCode n ≤ 0x66) := by
  unfold digitCode
  split
  · left; omega
  · right; omega

theorem nibbleOf_lt (h : Hash) (j : Nat) : nibbleOf h j < 16 := Nat.mod_lt _ (by decide)

/-- Nibble j as the serializer cuts it from its word (45_digest_serializer R211). -/
theorem toNat_extractLsb'_eq_nibbleOf (h : Hash) (j : Fin 40) :
    (h[j.val / 8].extractLsb' (28 - 4 * (j.val % 8)) 4).toNat = nibbleOf h j := by
  have hstart : 28 - 4 * (j.val % 8) = 4 * (7 - j.val % 8) := by omega
  have hword : h.toList.getD (j.val / 8) 0 = h[j.val / 8] :=
    List.getD_eq_getElem h.toList 0 (by rw [Vector.length_toList]; omega)
  rw [BitVec.extractLsb'_toNat, Nat.shiftRight_eq_div_pow, hstart, Nat.pow_mul, nibbleOf, hword]

theorem digestChar_toNat (h : Hash) (j : Fin 40) : (digestChar h j).toNat = digitCode (nibbleOf h j) := by
  rw [digestChar, hexChar_toNat, toNat_extractLsb'_eq_nibbleOf, digitCode]

theorem hexWord_eq_ofNat (h : Hash) (k : Fin 10) : hexWord h k = BitVec.ofNat 32 (hexNumber h k) := by
  have hnum : (hexWord h k).toNat = hexNumber h k := by simp only [hexWord, be32_toNat, digestChar_toNat, hexNumber]
  rw [← hnum, BitVec.ofNat_toNat, BitVec.setWidth_eq]

/-- Byte `p` of HEX[k], the most significant first, is character 4k + p (45_digest_serializer R212). -/
theorem hexWord_byte (h : Hash) (k : Fin 10) (p : Fin 4) :
    (hexWord h k).toNat / 256 ^ (3 - p.val) % 256 = digitCode (nibbleOf h (4 * k + p)) :=
  (be32_byte (fun p => digestChar h ⟨4 * k.val + p.val, by omega⟩) p).trans (digestChar_toNat h _)

/-! ### Views and reads -/

theorem digestView_of_failed {s : State} (h : s.lifeState = .failed) (i : Fin 5) : s.digestView i = 0 := if_pos h

theorem digestView_of_not_failed {s : State} (h : s.lifeState ≠ .failed) (i : Fin 5) : s.digestView i = s.h[i] :=
  if_neg h

theorem hexView_of_failed {s : State} (h : s.lifeState = .failed) (k : Fin 10) : s.hexView k = 0 := if_pos h

theorem hexView_of_not_failed {s : State} (h : s.lifeState ≠ .failed) (k : Fin 10) : s.hexView k = hexWord s.h k :=
  if_neg h

/-- HEX[k] as a number (45_digest_serializer R212, R214). -/
theorem hexView_eq_ofNat (s : State) (k : Fin 10) :
    s.hexView k = BitVec.ofNat 32 (if s.lifeState = .failed then 0 else hexNumber s.h k) := by
  split
  next h => exact hexView_of_failed h k
  next h => rw [hexView_of_not_failed h, hexWord_eq_ofNat]

/-- While busy a read that is exact when idle completes with a free word (20_memory R68; log 4). -/
theorem exists_readWhenIdle_of_busy {s : State} (hb : s.busy = true) (w : Word) :
    ∃ v, readWhenIdle w s = .next { s with resp := some (.readOk v), draws := s.draws + 1 } :=
  ⟨_, readWhenIdle_of_busy hb⟩

/-- Each HEX read shows the view of its index. -/
theorem exec_of_hexRead {i : Instr}
    (h : i ∈ [.rdHex0, .rdHex1, .rdHex2, .rdHex3, .rdHex4, .rdHex5, .rdHex6, .rdHex7, .rdHex8, .rdHex9]) :
    ∃ k : Fin 10, ∀ s, exec i s = readWhenIdle (s.hexView k) s := by
  obtain ⟨k, hk, rfl⟩ := List.getElem_of_mem h
  refine ⟨⟨k, hk⟩, fun s => ?_⟩
  simp only [List.length_cons, List.length_nil] at hk
  interval_cases k <;> rfl

end Sys2Proof.Machine

/-! SUPPORT. The statements about the digest serializer (45_digest_serializer). -/

namespace Sys2Proof.Proofs
open Sys2Proof.Machine Sys2Proof.Statements Host

/-- Settles O25: while busy the read is free; when idle it shows the view, by STATE. -/
theorem digestReadsShowTheHashState : Obligations.DigestReadsShowTheHashState := by
  intro s
  refine ⟨fun hb => ?_, fun hb hf => ?_, fun hb hf => ?_⟩
  · have hfree (i : Fin 5) := exists_readWhenIdle_of_busy hb (s.digestView i)
    exact ⟨hfree 0, hfree 1, hfree 2, hfree 3, hfree 4⟩
  · have hzero (i : Fin 5) : readWhenIdle (s.digestView i) s = .next { s with resp := some (.readOk 0) } :=
      digestView_of_failed hf i ▸ readWhenIdle_of_idle hb
    exact ⟨hzero 0, hzero 1, hzero 2, hzero 3, hzero 4⟩
  · have hword (i : Fin 5) : readWhenIdle (s.digestView i) s = .next { s with resp := some (.readOk s.h[i]) } :=
      digestView_of_not_failed hf i ▸ readWhenIdle_of_idle hb
    exact ⟨hword 0, hword 1, hword 2, hword 3, hword 4⟩

/-- Settles O26: while busy the read is free; when idle it shows the view, as a number. -/
theorem hexReadsShowTheDigestCharacters : Obligations.HexReadsShowTheDigestCharacters := by
  intro s
  refine ⟨fun hb => ?_, fun hb f hf => ?_⟩
  · have hfree (k : Fin 10) := exists_readWhenIdle_of_busy hb (s.hexView k)
    exact ⟨hfree 0, hfree 1, hfree 2, hfree 3, hfree 4, hfree 5, hfree 6, hfree 7, hfree 8, hfree 9⟩
  · have hnum (k : Fin 10) : readWhenIdle (s.hexView k) s =
        .next { s with resp := some (.readOk (BitVec.ofNat 32 (f k))) } := by
      rw [hf, ← hexView_eq_ofNat]
      exact readWhenIdle_of_idle hb
    exact ⟨hnum 0, hnum 1, hnum 2, hnum 3, hnum 4, hnum 5, hnum 6, hnum 7, hnum 8, hnum 9⟩

/-- Settles O27: the value is the view, whose bytes are digits of nibbles outside FAILED. -/
theorem hexTextIsLowercaseHexadecimal : Obligations.HexTextIsLowercaseHexadecimal := by
  intro s s' i v m hi hb h hresp
  obtain ⟨k, hexec⟩ := exec_of_hexRead hi
  have hs' := Outcome.next.inj (((hexec s).trans (readWhenIdle_of_idle hb)).symm.trans h)
  have hv : s.hexView k = v := by simpa [← hs'] using hresp
  rw [← hv]
  refine ⟨fun hf => ?_, fun hf => ?_⟩
  · rw [hexView_of_failed hf]
    simp
  · have hm : m.val = 3 - m.rev.val := by rw [Fin.val_rev]; omega
    rw [hexView_of_not_failed hf, hm, hexWord_byte]
    exact digitCode_range (nibbleOf_lt s.h _)

end Sys2Proof.Proofs

/-! SUPPORT. What stands in an exception's place, each said once: the code a CTRL write reports, that every turn goes on,
the turns with nothing to do, and the instances of a platform apart (60_exceptions). -/

namespace Sys2Proof.Machine
open Sys2Proof.Statements Host

/-! ### The code a CTRL write reports (60_exceptions R222) -/

/-- A word that is neither illegal nor malformed is one of the three commands, told by its OP (30_encoding R85). -/
theorem performCommand_of_defined {w : Word} (hi : ¬ IllegalWord w) (hm : ¬ MalformedWord w) (s : State) :
    (opOf w = 1 ∧ s.performCommand w = s.freshHash) ∨
    (opOf w = 2 ∧ s.performCommand w = s.performCompress) ∨
    (opOf w = 3 ∧ ∃ n : BitVec 7, n.toNat = nbytesOf w ∧ n.toNat ≤ 63 ∧
      s.performCommand w = s.performFinalize n) := by
  have hop : opOf w = w.toNat % 16 := rfl
  have hnb : nbytesOf w = w.toNat / 2 ^ 8 % 128 := rfl
  unfold State.performCommand
  split <;> rename_i hd
  · exact absurd ((decodeCmd_eq_illegal_iff w).1 hd) hi
  · exact absurd ((decodeCmd_eq_malformed_iff w).1 hd) hm
  · obtain rfl := (decodeCmd_eq_init_iff w).1 hd
    exact .inl ⟨rfl, rfl⟩
  · obtain rfl := (decodeCmd_eq_compress_iff w).1 hd
    exact .inr (.inl ⟨rfl, rfl⟩)
  · obtain ⟨hn, hw⟩ := (decodeCmd_eq_finalize_iff w _).1 hd
    exact .inr (.inr ⟨by omega, _, by omega, hn, rfl⟩)

theorem performCompress_result_of_inputAllowed {s : State} (h : InputAllowed s) : s.performCompress.result = .ok := by
  rw [State.performCompress, if_pos ((takesInput_iff s).2 h)]
  rfl

/-- FINALIZE n below the size limit is accepted (44_commands R182). -/
theorem performFinalize_result_of_lt {s : State} {n : BitVec 7} (hn : n.toNat ≤ 63) (h : InputAllowed s)
    (hfit : s.totalLength n < 2 ^ 61) : (s.performFinalize n).result = .ok := by
  simp only [State.performFinalize, if_neg (Nat.not_lt.2 hn), (takesInput_iff s).2 h, if_true, pad_of_lt _ hfit]
  rfl

/-! ### No turn faults (60_exceptions R221, R229) -/

theorem takeTurn_goes_on (turn : Turn) (s : State) : ∃ s', takeTurn turn s = .next s' := by
  cases turn with
  | assertReset | releaseReset => exact ⟨_, rfl⟩
  | engine =>
    simp only [takeTurn]
    split
    · exact ⟨_, rfl⟩
    · obtain ⟨s', h, _⟩ := engineTurn_cases s
      exact ⟨s', h⟩
  | host =>
    simp only [takeTurn]
    split
    · exact ⟨_, rfl⟩
    · exact hostTurn_goes_on s

/-! ### A turn with nothing to do (60_exceptions R234) -/

section
variable {s : State}

theorem takeTurn_engine_of_noJob (hr : s.resetLine = false) (hj : s.job = none) : takeTurn .engine s = .next s := by
  simp only [takeTurn, hr, Bool.false_eq_true, if_false, engineTurn, hj]

theorem takeTurn_host_of_noPending (hr : s.resetLine = false) (hp : s.pending = []) : takeTurn .host s = .next s := by
  simp only [takeTurn, hr, Bool.false_eq_true, if_false, hostTurn, hp]

theorem takeTurn_releaseReset_of_released (hr : s.resetLine = false) : takeTurn .releaseReset s = .next s := by
  simp only [takeTurn, hr, Bool.false_eq_true, if_false]

/-- A turn that is lined up is the one the step takes (log 1). -/
theorem step_of_turns {turn : Turn} {ts : List Turn} (h : s.turns = turn :: ts) :
    step s = takeTurn turn { s with turns := ts } := by
  rw [step_eq_takeTurn, mover_of_turns h, h, List.tail_cons]

/-- With no turn lined up and no job in flight the step is the host's turn (log 11). -/
theorem step_of_noTurns_noJob (ht : s.turns = []) (hj : s.job = none) : step s = takeTurn .host s := by
  rw [step_eq_takeTurn, mover_of_noTurns_noJob ht hj, ht, List.tail_nil, ← ht]

end

/-! ### Instances of a platform (60_exceptions R236) -/

section
variable {p p' : Platform} {acc : Access} {k m : Nat}

/-- No address is in the windows of two instances (20_memory R61). -/
theorem Platform.Disjoint.inWindow_eq_false {s s' : State} (h : p.Disjoint) (hne : k ≠ m)
    (hk : p.instances[k]? = some s) (hm : p.instances[m]? = some s') {addr : Nat} (hin : s.inWindow addr = true) :
    s'.inWindow addr = false := by
  obtain ⟨hk', rfl⟩ := List.getElem?_eq_some_iff.1 hk
  obtain ⟨hm', rfl⟩ := List.getElem?_eq_some_iff.1 hm
  have hpair := List.pairwise_iff_getElem.1 h
  rw [← Bool.not_eq_true]
  intro hin'
  rcases Nat.lt_or_gt_of_ne hne with hlt | hgt
  · exact hpair k m hk' hm' hlt addr ⟨hin, hin'⟩
  · exact hpair m k hm' hk' hgt addr ⟨hin', hin⟩

/-- An access leaves alone the instances whose windows do not hold its address. -/
theorem Platform.send_getElem?_of_outside (h : ∀ s, p.instances[k]? = some s → s.inWindow acc.addr = false) :
    (p.send acc).instances[k]? = p.instances[k]? := by
  simp only [Platform.send, List.getElem?_map]
  cases hk : p.instances[k]? with
  | none => rfl
  | some s => simp [h s hk]

theorem Platform.stepAt_getElem?_of_ne (h : p.stepAt k = .next p') (hne : k ≠ m) :
    p'.instances[m]? = p.instances[m]? := by
  unfold Platform.stepAt at h
  split at h
  · rw [Outcome.next.inj h]
  · split at h
    · rw [← Outcome.next.inj h]
      exact List.getElem?_set_ne hne
    all_goals exact nomatch h

end

end Sys2Proof.Machine

/-! SUPPORT. The statements about errors, idleness and instances (60_exceptions). -/

namespace Sys2Proof.Proofs
open Sys2Proof.Machine Sys2Proof.Statements Host

/-- Settles O21: while busy the write is dropped; when idle the decoder's class of the word comes first, then STATE, then
the length. -/
theorem ctrlWriteReportsTheFirstConditionThatApplies : Obligations.CtrlWriteReportsTheFirstConditionThatApplies := by
  intro s w
  cases hb : s.busy with
  | true =>
    exact ⟨_, exec_ctrlWrite_of_busy hb (.inr (.inr (.inr ⟨w, rfl⟩))), fun _ => ⟨rfl, rfl⟩, nofun, nofun, nofun, nofun,
      nofun⟩
  | false =>
    refine ⟨(s.performCommand w).respond .writeOk, ctrlWrite_of_idle hb, nofun, fun _ hi => ?_, fun _ hm => ?_,
      fun _ hi hm hop hna => ?_, fun _ hi hm hop ha hover => ?_, fun _ hi hm hok => ?_⟩ <;>
      rw [State.respond_result]
    · rw [performCommand_of_illegal hi, State.raiseReject_result]
    · rw [performCommand_of_malformed hm, State.raiseReject_result]
    · rcases performCommand_of_defined hi hm s with ⟨hop', _⟩ | ⟨_, he⟩ | ⟨_, n, _, hn, he⟩
      · exact absurd hop' hop
      · rw [he, performCompress_of_not_inputAllowed hna, State.raiseReject_result]
      · rw [he, performFinalize_of_not_inputAllowed hn hna, State.raiseReject_result]
    · rcases performCommand_of_defined hi hm s with ⟨hop', _⟩ | ⟨hop', _⟩ | ⟨_, n, hnb, hn, he⟩
      · omega
      · omega
      · rw [← hnb] at hover
        rw [he, performFinalize_of_pad_eq_none hn ha (pad_of_ge _ hover), State.raiseOversize_result]
    · rcases performCommand_of_defined hi hm s with ⟨_, he⟩ | ⟨hop, he⟩ | ⟨hop, n, hnb, hn, he⟩
      · rw [he, State.freshHash_result]
      · rw [he, performCompress_result_of_inputAllowed (hok.resolve_left (by omega)).1]
      · obtain ⟨ha, hfit⟩ := hok.resolve_left (by omega)
        rw [← hnb] at hfit
        rw [he, performFinalize_result_of_lt hn ha (hfit.resolve_left (by omega))]

/-- Settles O56: the step is the mover's turn, and no turn faults or is refused. -/
theorem everyStepGoesOn : Obligations.EveryStepGoesOn := by
  intro s
  rw [State.StepsOn, step_eq_takeTurn]
  exact takeTurn_goes_on _ _

/-- Settles O60: windows that do not overlap hold an address once at most, and a step sets one entry of the platform alone. -/
theorem instancesShareNothing : Obligations.InstancesShareNothing := by
  refine ⟨fun p acc k m hd hne => ?_, fun p p' k m => Platform.stepAt_getElem?_of_ne⟩
  by_cases hin : ∃ s, p.instances[k]? = some s ∧ s.inWindow acc.addr = true
  · obtain ⟨s, hk, hin⟩ := hin
    exact .inr (Platform.send_getElem?_of_outside fun s' hm => hd.inWindow_eq_false hne hk hm hin)
  · exact .inl (Platform.send_getElem?_of_outside fun s hk => by simpa using fun h => hin ⟨s, hk, h⟩)

/-- Settles O14: each of the turns passes, and with no turn lined up it is the host's. -/
theorem idleMachineKeepsAllState : Obligations.IdleMachineKeepsAllState :=
  fun _ hr => ⟨fun _ ht hj => (step_of_turns ht).trans (takeTurn_engine_of_noJob hr hj),
    fun _ ht hp => (step_of_turns ht).trans (takeTurn_host_of_noPending hr hp),
    fun _ ht => (step_of_turns ht).trans (takeTurn_releaseReset_of_released hr),
    fun ht hp hj => (step_of_noTurns_noJob ht hj).trans (takeTurn_host_of_noPending hr hp)⟩

end Sys2Proof.Proofs

/-! SUPPORT. A turn under reset, said once: it applies the reset values whoever moves, and sets the line
(70_reset_and_hazards R250, R252). -/

namespace Sys2Proof.Machine
open Sys2Proof.Statements Host

/-- An assertion of reset, and every turn while it is asserted, applies the reset values; the line stays asserted unless
the turn is its release. -/
theorem takeTurn_of_reset {turn : Turn} {s : State} (h : turn = .assertReset ∨ s.resetLine = true) :
    takeTurn turn s = .next { s.applyReset with resetLine := decide (turn ≠ .releaseReset) } := by
  cases turn with
  | assertReset => rfl
  | releaseReset =>
    have hr : s.resetLine = true := h.resolve_left nofun
    simp [takeTurn, hr]
  | engine | host =>
    have hr : s.resetLine = true := h.resolve_left nofun
    have hkeep : s.applyReset = { s.applyReset with resetLine := true } := by rw [← hr]; rfl
    simp only [takeTurn, hr, if_true]
    exact congrArg Outcome.next hkeep

/-- The step under reset: the mover's turn is used up and the reset values are applied. -/
theorem step_of_reset {s : State} (h : mover s = .assertReset ∨ s.resetLine = true) :
    step s = .next { s.applyReset with turns := s.turns.tail, resetLine := decide (mover s ≠ .releaseReset) } :=
  (step_eq_takeTurn s).trans (takeTurn_of_reset (s := { s with turns := s.turns.tail }) h)

end Sys2Proof.Machine

/-! SUPPORT. The statements about the reset input (70_reset_and_hazards). -/

namespace Sys2Proof.Proofs
open Sys2Proof.Machine Sys2Proof.Statements Host

/-- Settles O2: both the assertion and the release of an asserted line are a step under reset, and the fresh hash state
of INIT differs from the reset values in DATA alone. -/
theorem resetInputRestoresRegistersAndDiscardsJob : Obligations.ResetInputRestoresRegistersAndDiscardsJob := by
  intro s ts h
  have hreset : mover s = .assertReset ∨ s.resetLine = true := h.imp mover_of_turns And.right
  have htail : s.turns.tail = ts := by rcases h with ht | ⟨ht, _⟩ <;> rw [ht, List.tail_cons]
  have hline : decide (mover s ≠ .releaseReset) = true ↔ s.turns = .assertReset :: ts := by
    rcases h with ht | ⟨ht, _⟩ <;> simp [mover_of_turns ht, ht]
  exact ⟨_, step_of_reset hreset, applyReset_holds s, htail, rfl, rfl, rfl, hline, fun hb hj =>
    ⟨_, exec_init_of_idle hb (.inl rfl), rfl, rfl, rfl, hb, rfl, rfl, hj, rfl⟩⟩

/-- Settles O3: a step under reset applies the reset values and touches neither the host's accesses nor the response. -/
theorem hostTakesNoAccessWhileResetIsAsserted : Obligations.HostTakesNoAccessWhileResetIsAsserted :=
  fun s hr hm => ⟨_, step_of_reset (.inr hr), rfl, rfl, applyReset_holds s, decide_eq_true hm⟩

end Sys2Proof.Proofs
